-- ==== Sys2Proof/Word.lean ====
section
/-! DEFINITION. The word types of the device controller: bytes, bus words, sub-unit masks and the two groups of tag
lines (spec/20_memory.md R61 to R63, spec/10_state.md R34 to R37). -/

namespace Sys2Proof

/-- A byte of the interface: a command, status, sense, address or data byte (R10, R65). -/
abbrev Byte := BitVec 8

/-- A bus word: bits 7..0 are the data byte, bit 8 is the parity bit (R62). -/
abbrev BusWord := BitVec 9

/-- A mask over the sub-units of one controller, bit `u` for sub-unit `u` (R34 to R37). A controller has at most 16
sub-units (R7), so 16 bits hold every NUNITS-bit mask; the bits from NUNITS up stay 0. -/
abbrev UnitMask := BitVec 16

/-- The seven lines the channel drives (R14, R63). -/
structure OutTags where
  /-- Operational-Out -/
  opr : Bool
  /-- Select-Out -/
  sel : Bool
  /-- Hold-Out -/
  hld : Bool
  /-- Address-Out -/
  adr : Bool
  /-- Command-Out -/
  cmd : Bool
  /-- Service-Out -/
  srv : Bool
  /-- Suppress-Out -/
  sup : Bool
  deriving DecidableEq, Repr, Inhabited

/-- The five lines the controllers drive (R14, R63). -/
structure InTags where
  /-- Operational-In -/
  opr : Bool
  /-- Address-In -/
  adr : Bool
  /-- Status-In -/
  sta : Bool
  /-- Service-In -/
  srv : Bool
  /-- Request-In -/
  req : Bool
  deriving DecidableEq, Repr, Inhabited

/-- No in-tag is up. -/
def InTags.down : InTags := ⟨false, false, false, false, false⟩

/-- Wired-OR of two groups of in-tags (R63, R110). -/
def InTags.or (a b : InTags) : InTags :=
  ⟨a.opr || b.opr, a.adr || b.adr, a.sta || b.sta, a.srv || b.srv, a.req || b.req⟩

end Sys2Proof
end

