-- ==== Sys2Proof/Config.lean ====
section
/-! DEFINITION. What an implementation fixes (the parameters of spec/00_scope.md R7 and the registry entries of
spec/45_address_scanner.md R300), the shape of what the environment supplies to a step (R8), and the free values: the
channel's lines, the Storage Codec's answers, the device conditions and the overrun draw, each an uninterpreted constant
that nothing constrains. -/

namespace Sys2Proof

/-- One entry of the registry (R300): the address of sub-unit 0 and the number of sub-units of one controller. -/
structure RegEntry where
  /-- `BASE[i]` -/
  base : Byte
  /-- `NUNITS[i]` -/
  nunits : Nat
  deriving DecidableEq, Repr, Inhabited

/-- The three device-condition inputs of a sub-unit (R48), as one sample of them. -/
structure DevCond where
  /-- medium attached and drive ready -/
  attached : Bool
  /-- read-only medium -/
  readOnly : Bool
  /-- at load point -/
  atLoadPoint : Bool
  deriving DecidableEq, Repr, Inhabited

/-- The parameters of R7 that are not per controller, and the `detail` table of R91. -/
structure Params where
  /-- `NSENSE`, the number of sense bytes -/
  nsense : Nat
  /-- `D_START` -/
  dStart : Nat
  /-- `D_BYTE` -/
  dByte : Nat
  /-- `D_MOTION` -/
  dMotion : Nat
  /-- `D_BG` -/
  dBg : Nat
  /-- `REWIND_CHUNK` -/
  rewindChunk : Nat
  /-- `detail` as a table of eight bytes, indexed by 4·attached + 2·atLoadPoint + readOnly (R91) -/
  detail : List Byte
  deriving DecidableEq, Repr

/-- The defaults of R7, with the default `detail` of R91: 0x40 for attached, 0x08 for load point, 0x02 for read-only. -/
def Params.default : Params where
  nsense := 6
  dStart := 0
  dByte := 0
  dMotion := 0
  dBg := 0
  rewindChunk := 1
  detail := [0x00, 0x02, 0x08, 0x0A, 0x40, 0x42, 0x48, 0x4A]

/-- The registry of R7's defaults: one controller with one sub-unit at address 0x80. -/
def RegEntry.default : RegEntry := ⟨0x80, 1⟩

/-- The four answers of the Storage Codec (R47). -/
inductive CodecResult where
  | ok
  | endOfMedium
  | markHit
  | error
  deriving DecidableEq, Repr, Inhabited

/-- One answer of the Storage Codec: the result, and the data byte that `readFrame` returns with `ok` (R47). -/
structure CodecAnswer where
  result : CodecResult
  byte : Byte
  deriving DecidableEq, Repr, Inhabited

/-- The eight calls of the Storage Codec interface (R47). -/
inductive CodecCall where
  | startForwardRead
  | startBackwardRead
  | readFrame
  | writeFrame (b : Byte)
  | finishRecord
  | startWrite
  | writeMark
  | rewind (frameCount : Nat)
  deriving DecidableEq, Repr

/-- What the channel drives in one bus cycle (R110): the out-tags and bus-out. -/
structure CycleIn where
  out : OutTags
  busOut : BusWord
  deriving DecidableEq, Repr, Inhabited

/-- FREE VALUE (R8, R110): what the channel drives in bus cycle `n` when no line is listed for it. -/
opaque Config.freeLine : Nat → CycleIn

/-- FREE VALUE (R47, I15): the codec's answer to draw number `n` when no answer is listed for it. -/
opaque Config.freeAnswer : Nat → CodecAnswer

/-- FREE VALUE (R48, I16): the device conditions sampled at draw number `n` when no sample is listed for it. -/
opaque Config.freeCond : Nat → DevCond

/-- FREE VALUE (R212, I17): the overrun draw number `n` when no draw is listed for it. -/
opaque Config.freeLate : Nat → Bool

end Sys2Proof
end

