-- ==== Sys2Proof/Syntax.lean ====
section
/-! DEFINITION. The thirteen protocol states, the ten handshake phases, and the instructions: one constructor for each row
of spec/opcode_table.json, fifteen of format CMD (the command byte) and sixteen of format TAG (the tag events). -/

namespace Sys2Proof

/-- The protocol states (R22). The spec's END is `ending` here, because `end` is a word of Lean. -/
inductive CState where
  | idle
  | select
  | command
  | initStatus
  | operate
  | request
  | dataIn
  | dataOut
  | dataEnd
  | ending
  | stack
  | wait
  | ready
  deriving DecidableEq, Repr

/-- The phases of the handshake sequencer (R23, R114). -/
inductive Phase where
  | pNone
  | pAddrWait
  | pAddrIn
  | pCmdWait
  | pStatus
  | pStatusAck
  | pService
  | pServiceAck
  | pReq
  | pBusy
  deriving DecidableEq, Repr

/-- The instructions. A constructor of format CMD stands for the command byte of its row. A constructor of format TAG
stands for a pattern of the seven out-tags seen by a controller in the phase that qualifies it (R95); its arguments are
the lines that its pattern does not examine, so no line of the cycle is dropped. -/
inductive Instr where
  /-- TIO 0x00, test (R180) -/
  | tio
  /-- WR 0x01, write (R205) -/
  | wr
  /-- RD 0x02, read (R202) -/
  | rd
  /-- CTL xxxxx011, control; the modifier is ignored (R181) -/
  | ctl (mod : BitVec 5)
  /-- SNS 0x04, sense (R209) -/
  | sns
  /-- RDB 0x0C, read backward (R202) -/
  | rdb
  /-- REW 0x07, rewind (R241) -/
  | rew
  /-- RUN 0x0F, rewind and unload (R242) -/
  | run
  /-- ERG 0x17, erase gap (R243) -/
  | erg
  /-- WTM 0x1F, write tape mark (R244) -/
  | wtm
  /-- BSB 0x27, backspace block (R245) -/
  | bsb
  /-- BSF 0x2F, backspace file (R246) -/
  | bsf
  /-- FSB 0x37, forward space block (R247) -/
  | fsb
  /-- FSF 0x3F, forward space file (R248) -/
  | fsf
  /-- ILLEGAL: any of the 211 bytes that no other CMD row matches (R174) -/
  | illegal (c : Byte)
  /-- ERESET: OPR 0 (R96, R341) -/
  | ereset (sel hld adr cmd srv sup : Bool)
  /-- EHALT: OPR 1, SEL 0, ADR 1 (R99, R140) -/
  | ehalt (hld cmd srv sup : Bool)
  /-- ESEL: OPR SEL HLD ADR 1, CMD SRV 0 (R97, R121 to R123) -/
  | esel (sup : Bool)
  /-- ECHAIN: OPR SEL HLD ADR 1, CMD SRV 0, in chained WAIT (R288) -/
  | echain (sup : Bool)
  /-- EPOLL: OPR SEL HLD 1, ADR CMD SRV 0 (R98, R134, R258) -/
  | epoll (sup : Bool)
  /-- EABANDON: OPR 1, SEL 0, ADR 0 (R127) -/
  | eabandon (hld cmd srv sup : Bool)
  /-- EADROP: OPR 1, ADR 0 (R126) -/
  | eadrop (sel hld cmd srv sup : Bool)
  /-- ECMD: OPR 1, CMD 1, SRV 0, in P_ADDR_IN (R128, R135, R259) -/
  | ecmd (sel hld adr sup : Bool)
  /-- ECMDDROP: OPR 1, CMD 0, in P_CMD_WAIT (R184, R136, R260) -/
  | ecmddrop (sel hld adr srv sup : Bool)
  /-- EACCEPT: OPR 1, CMD 0, SRV 1, in P_STATUS or P_SERVICE (R186, R214, R219, R262, R272) -/
  | eaccept (sel hld adr sup : Bool)
  /-- ESTACK: OPR 1, CMD 1, SRV 0, in P_STATUS (R185, R261, R273) -/
  | estack (sel hld adr sup : Bool)
  /-- ESTOP: OPR 1, CMD 1, SRV 0, in P_SERVICE (R215, R220) -/
  | estop (sel hld adr sup : Bool)
  /-- EACKDROP: OPR 1, CMD 0, SRV 0, in P_STATUS_ACK or P_SERVICE_ACK (R187, R216, R263, R274, R283) -/
  | eackdrop (sel hld adr sup : Bool)
  /-- EBUSYEND, variant OPR 1, SEL 0, in P_BUSY (R124) -/
  | ebusyendSel0 (hld adr cmd srv sup : Bool)
  /-- EBUSYEND, variant OPR 1, ADR 0, in P_BUSY (R124) -/
  | ebusyendAdr0 (sel hld cmd srv sup : Bool)
  /-- HOLD: any pattern that is no event for the controller's phase (R105, R117) -/
  | hold (o : OutTags)
  deriving DecidableEq, Repr

end Sys2Proof
end

