-- ==== Sys2Proof/Decode.lean ====
section
/-! DEFINITION. The decoder of the command byte (spec/30_encoding.md R80 to R87, spec/41_command_decode_status.md R160), the
decoder of the tag events (R95 to R105) with the priority of spec/40_selection_sequencer.md R113, the packed tag vector
(R93), and after them the encoder, written from the same tables. -/

namespace Sys2Proof

/-! ## The command byte -/

/-- `class`: byte bits 5-7, mask 0x07 (R80). -/
def classOf (c : Byte) : BitVec 3 := c.extractLsb' 0 3

/-- `sub`: byte bits 2-4, mask 0x38 (R80). -/
def subOf (c : Byte) : BitVec 3 := c.extractLsb' 3 3

/-- `mod`: byte bits 0-4, mask 0xF8 (R80). -/
def modOf (c : Byte) : BitVec 5 := c.extractLsb' 3 5

/-- `rsv`: byte bits 0-1, mask 0xC0 (R80). -/
def rsvOf (c : Byte) : BitVec 2 := c.extractLsb' 6 2

/-- The result of `decodeCommand` (R160). -/
structure DecodedCommand where
  cls : BitVec 3
  subcode : BitVec 3
  modifierBits : BitVec 5
  deriving DecidableEq, Repr

/-- `decodeCommand(c)` (R160): total on all 256 bytes, without state. -/
def decodeCommand (c : Byte) : DecodedCommand := ⟨classOf c, subOf c, modOf c⟩

/-- `legal(c)` (R82): true for exactly 45 bytes. -/
def legal (c : Byte) : Bool :=
  match (classOf c).toNat with
  | 0 => modOf c == 0
  | 1 => modOf c == 0
  | 2 => modOf c == 0
  | 3 => true
  | 4 => modOf c == 0 || modOf c == 1
  | 7 => rsvOf c == 0
  | _ => false

/-- The eight motion commands by sub-code (R83). -/
def motionOf (c : Byte) : Instr :=
  match (subOf c).toNat with
  | 0 => .rew
  | 1 => .run
  | 2 => .erg
  | 3 => .wtm
  | 4 => .bsb
  | 5 => .bsf
  | 6 => .fsb
  | _ => .fsf

/-- The instruction a command byte stands for (R84). Every byte has one: a byte that is not legal is ILLEGAL (R85). -/
def instrOfByte (c : Byte) : Instr :=
  match (classOf c).toNat with
  | 0 => if modOf c = 0 then .tio else .illegal c
  | 1 => if modOf c = 0 then .wr else .illegal c
  | 2 => if modOf c = 0 then .rd else .illegal c
  | 3 => .ctl (modOf c)
  | 4 => if modOf c = 0 then .sns else if modOf c = 1 then .rdb else .illegal c
  | 7 => if rsvOf c = 0 then motionOf c else .illegal c
  | _ => .illegal c

/-! ## The packed tag vector -/

/-- The out-tags packed by the masks of R93: OPR 0x01, SEL 0x02, HLD 0x04, ADR 0x08, CMD 0x10, SRV 0x20, SUP 0x40. -/
def OutTags.word (o : OutTags) : BitVec 7 :=
  BitVec.ofBool o.sup ++ BitVec.ofBool o.srv ++ BitVec.ofBool o.cmd ++ BitVec.ofBool o.adr ++
    BitVec.ofBool o.hld ++ BitVec.ofBool o.sel ++ BitVec.ofBool o.opr

/-- The out-tags of a packed vector (R93). -/
def OutTags.ofWord (w : BitVec 7) : OutTags :=
  ⟨w.getLsbD 0, w.getLsbD 1, w.getLsbD 2, w.getLsbD 3, w.getLsbD 4, w.getLsbD 5, w.getLsbD 6⟩

/-- The in-tags in the packed twelve-line vector of R93: OPR_IN 0x080, ADR_IN 0x100, STA_IN 0x200, SRV_IN 0x400,
REQ_IN 0x800. -/
def InTags.word (t : InTags) : BitVec 12 :=
  BitVec.ofBool t.req ++ BitVec.ofBool t.srv ++ BitVec.ofBool t.sta ++ BitVec.ofBool t.adr ++
    BitVec.ofBool t.opr ++ (0 : BitVec 7)

/-! ## Tag events -/

/-- What qualifies a tag event besides the seven lines (the "qualifier" column of R95). -/
structure Qual where
  /-- the controller's phase -/
  phase : Phase
  /-- `selected = 1` -/
  selected : Bool
  /-- `state = WAIT` and `chaining = 1` -/
  chained : Bool
  /-- "bus free" (R119) -/
  busFree : Bool
  /-- `parityOK(busOut)` and `scan(busOut[7:0])` names this controller -/
  addressed : Bool
  /-- `state` is READY, STACK or DATA_END: a request for status, gated by Suppress-Out (R133) -/
  statusReq : Bool
  deriving DecidableEq, Repr

/-- The pattern of ESEL and ECHAIN (R97). -/
def OutTags.isSelect (o : OutTags) : Bool := o.opr && o.sel && o.hld && o.adr && !o.cmd && !o.srv

/-- The pattern of EPOLL (R98). -/
def OutTags.isPoll (o : OutTags) : Bool := o.opr && o.sel && o.hld && !o.adr && !o.cmd && !o.srv

/-- The pattern of EHALT (R99). -/
def OutTags.isHalt (o : OutTags) : Bool := o.opr && o.adr && !o.sel

/-- The pattern of ECMD, ESTACK and ESTOP (R100, R102, R103). -/
def OutTags.isCommandOut (o : OutTags) : Bool := o.opr && o.cmd && !o.srv

/-- The pattern of EACCEPT (R101). -/
def OutTags.isServiceOut (o : OutTags) : Bool := o.opr && o.srv && !o.cmd

/-- The pattern of EACKDROP (R95). -/
def OutTags.isAckDrop (o : OutTags) : Bool := o.opr && !o.srv && !o.cmd

/-- `stay` (R118): Select-Out and Hold-Out are both up. -/
def OutTags.stay (o : OutTags) : Bool := o.sel && o.hld

/-- The full qualifier and pattern of ESEL (R95, R97). -/
def selects (q : Qual) (o : OutTags) : Bool :=
  o.isSelect && !q.selected && (q.phase == .pNone || q.phase == .pReq) && q.busFree && q.addressed

/-- The event for the current phase, when no earlier stage of R113 applies (R104: one event a phase, EABANDON before
EADROP). -/
def decodePhase (q : Qual) (o : OutTags) : Instr :=
  match q.phase with
  | .pNone => if q.selected && q.chained && o.isSelect then .echain o.sup else .hold o
  | .pAddrWait =>
    if o.adr then .hold o
    else if o.sel then .eadrop o.sel o.hld o.cmd o.srv o.sup
    else .eabandon o.hld o.cmd o.srv o.sup
  | .pAddrIn => if o.isCommandOut then .ecmd o.sel o.hld o.adr o.sup else .hold o
  | .pCmdWait => if o.cmd then .hold o else .ecmddrop o.sel o.hld o.adr o.srv o.sup
  | .pStatus =>
    if o.isServiceOut then .eaccept o.sel o.hld o.adr o.sup
    else if o.isCommandOut then .estack o.sel o.hld o.adr o.sup
    else .hold o
  | .pStatusAck => if o.isAckDrop then .eackdrop o.sel o.hld o.adr o.sup else .hold o
  | .pService =>
    if o.isServiceOut then .eaccept o.sel o.hld o.adr o.sup
    else if o.isCommandOut then .estop o.sel o.hld o.adr o.sup
    else .hold o
  | .pServiceAck => if o.isAckDrop then .eackdrop o.sel o.hld o.adr o.sup else .hold o
  | .pReq => if o.isPoll && q.busFree && !(q.statusReq && o.sup) then .epoll o.sup else .hold o
  | .pBusy =>
    if !o.sel then .ebusyendSel0 o.hld o.adr o.cmd o.srv o.sup
    else if !o.adr then .ebusyendAdr0 o.sel o.hld o.cmd o.srv o.sup
    else .hold o

/-- The tag event of a cycle for one controller, by the stages of R113: ERESET, EHALT, the short busy sequence, ESEL, then
the event for the current phase. -/
def decodeTags (q : Qual) (o : OutTags) : Instr :=
  if !o.opr then .ereset o.sel o.hld o.adr o.cmd o.srv o.sup
  else if q.selected && o.isHalt then .ehalt o.hld o.cmd o.srv o.sup
  else if q.phase = .pBusy then decodePhase q o
  else if selects q o then .esel o.sup
  else decodePhase q o

/-- A word the decoder is given: a command byte (format CMD) or a packed vector of out-tags (format TAG). -/
inductive Word where
  | command (c : Byte)
  | tags (w : BitVec 7)
  deriving DecidableEq, Repr

/-- The decoder. It is total: every command byte and every pattern of out-tags is an instruction. -/
def decode (q : Qual) : Word → Instr
  | .command c => instrOfByte c
  | .tags w => decodeTags q (OutTags.ofWord w)

/-! ## A word of the opcode table -/

/-- Why a word of the opcode table is not read. -/
inductive DecodeError where
  /-- neither format has this many bits -/
  | noSuchFormat (nbits : Nat)
  /-- the number does not fit in its bits -/
  | tooWide (nbits w : Nat)
  deriving DecidableEq, Repr

/-- Which format a word of the opcode table has. The table's two formats share the numbers 0 to 127, and a word given in
whole bytes does not say which one it is. Seven bits are out-tags. Of eight bits, a legal command byte is a command, a
byte below 0x80 that is no legal command is read as out-tags, and the others are commands (ILLEGAL). DESIGN CHOICE, log
entry 3. Only the host's two probes use this: a step knows the format from where the word stands. -/
def tableWord (nbits w : Nat) : Except DecodeError Word :=
  if w ≥ 2 ^ nbits then .error (.tooWide nbits w)
  else if nbits = 7 then .ok (.tags (BitVec.ofNat 7 w))
  else if nbits = 8 then
    if legal (BitVec.ofNat 8 w) || w ≥ 128 then .ok (.command (BitVec.ofNat 8 w))
    else .ok (.tags (BitVec.ofNat 7 w))
  else .error (.noSuchFormat nbits)

/-- A phase in which a pattern of out-tags is an event, for a table word that comes without its context: the pattern
with most lines examined first (log entry 3). -/
def tablePhase (o : OutTags) : Phase :=
  if o.isSelect then .pNone
  else if o.isPoll then .pReq
  else if o.isCommandOut then .pAddrIn
  else if o.isServiceOut then .pStatus
  else if o.isHalt then .pStatus
  else if !o.adr then .pAddrWait
  else if o.isAckDrop then .pStatusAck
  else .pBusy

/-- The qualifier that goes with `tablePhase`: the controller selected or not as the phase has it (R44 (i)), the bus free,
the address its own. -/
def tableQual (o : OutTags) : Qual where
  phase := tablePhase o
  selected := tablePhase o != .pNone && tablePhase o != .pReq && tablePhase o != .pBusy
  chained := false
  busFree := true
  addressed := o.isSelect
  statusReq := false

/-- The instruction the decoder reads from a word of the opcode table. -/
def decodeTableWord (nbits w : Nat) : Option Instr :=
  match tableWord nbits w with
  | .ok (.command c) => some (instrOfByte c)
  | .ok (.tags t) => some (decode (tableQual (OutTags.ofWord t)) (.tags t))
  | .error _ => none

/-! ## The encoder -/

/-- The command byte of an instruction of format CMD (R83, R84); none for a tag event. -/
def byteOfInstr : Instr → Option Byte
  | .tio => some 0x00
  | .wr => some 0x01
  | .rd => some 0x02
  | .ctl m => some (m ++ (3 : BitVec 3))
  | .sns => some 0x04
  | .rdb => some 0x0C
  | .rew => some 0x07
  | .run => some 0x0F
  | .erg => some 0x17
  | .wtm => some 0x1F
  | .bsb => some 0x27
  | .bsf => some 0x2F
  | .fsb => some 0x37
  | .fsf => some 0x3F
  | .illegal c => some c
  | .ereset _ _ _ _ _ _ => none
  | .ehalt _ _ _ _ => none
  | .esel _ => none
  | .echain _ => none
  | .epoll _ => none
  | .eabandon _ _ _ _ => none
  | .eadrop _ _ _ _ _ => none
  | .ecmd _ _ _ _ => none
  | .ecmddrop _ _ _ _ _ => none
  | .eaccept _ _ _ _ => none
  | .estack _ _ _ _ => none
  | .estop _ _ _ _ => none
  | .eackdrop _ _ _ _ => none
  | .ebusyendSel0 _ _ _ _ _ => none
  | .ebusyendAdr0 _ _ _ _ _ => none
  | .hold _ => none

/-- The out-tags of an instruction of format TAG, from the table of R95: the examined lines as the pattern has them, the
others from the arguments. A command has no tags of its own. -/
def tagsOfInstr : Instr → Option OutTags
  | .tio => none
  | .wr => none
  | .rd => none
  | .ctl _ => none
  | .sns => none
  | .rdb => none
  | .rew => none
  | .run => none
  | .erg => none
  | .wtm => none
  | .bsb => none
  | .bsf => none
  | .fsb => none
  | .fsf => none
  | .illegal _ => none
  | .ereset sel hld adr cmd srv sup => some ⟨false, sel, hld, adr, cmd, srv, sup⟩
  | .ehalt hld cmd srv sup => some ⟨true, false, hld, true, cmd, srv, sup⟩
  | .esel sup => some ⟨true, true, true, true, false, false, sup⟩
  | .echain sup => some ⟨true, true, true, true, false, false, sup⟩
  | .epoll sup => some ⟨true, true, true, false, false, false, sup⟩
  | .eabandon hld cmd srv sup => some ⟨true, false, hld, false, cmd, srv, sup⟩
  | .eadrop sel hld cmd srv sup => some ⟨true, sel, hld, false, cmd, srv, sup⟩
  | .ecmd sel hld adr sup => some ⟨true, sel, hld, adr, true, false, sup⟩
  | .ecmddrop sel hld adr srv sup => some ⟨true, sel, hld, adr, false, srv, sup⟩
  | .eaccept sel hld adr sup => some ⟨true, sel, hld, adr, false, true, sup⟩
  | .estack sel hld adr sup => some ⟨true, sel, hld, adr, true, false, sup⟩
  | .estop sel hld adr sup => some ⟨true, sel, hld, adr, true, false, sup⟩
  | .eackdrop sel hld adr sup => some ⟨true, sel, hld, adr, false, false, sup⟩
  | .ebusyendSel0 hld adr cmd srv sup => some ⟨true, false, hld, adr, cmd, srv, sup⟩
  | .ebusyendAdr0 sel hld cmd srv sup => some ⟨true, sel, hld, false, cmd, srv, sup⟩
  | .hold o => some o

/-- The word of an instruction: its command byte, or its packed out-tags. -/
def encode (i : Instr) : Word :=
  match byteOfInstr i with
  | some c => .command c
  | none =>
    match tagsOfInstr i with
    | some o => .tags o.word
    | none => .command 0

end Sys2Proof
end

