-- ==== Sys2Proof/Machine/State.lean ====
section
/-! DEFINITION. The state of the machine: the controller contexts of spec/10_state.md (R20 to R51), the registry they stand
in, the parameters, and what the environment supplies and receives (R8, R42, R47); its values at attach (R49, R340); and
the reasons a step can stop. -/

namespace Sys2Proof.Machine

/-- The Controller Context: every register of R21 to R41 and R51. -/
structure Ctx where
  /-- `address` (R21): the channel address of sub-unit 0, constant after attach -/
  address : Byte
  /-- `state` (R22) -/
  state : CState
  /-- `phase` (R23) -/
  phase : Phase
  /-- `selected` (R24) -/
  selected : Bool
  /-- `currentCommand` (R25) -/
  currentCommand : Byte
  /-- `commandDone` (R26) -/
  commandDone : Bool
  /-- `chaining` (R27) -/
  chaining : Bool
  /-- `dataByte` (R28) -/
  dataByte : Byte
  /-- `dataReady` (R29) -/
  dataReady : Bool
  /-- `dataEnd` (R30) -/
  dataEnd : Bool
  /-- `status` (R31) -/
  status : Byte
  /-- `senseBytes[0..NSENSE-1]` (R32) -/
  senseBytes : List Byte
  /-- `senseIndex` (R33) -/
  senseIndex : Nat
  /-- `pendingUnit` (R34) -/
  pendingUnit : UnitMask
  /-- `readyFlags` (R35) -/
  readyFlags : UnitMask
  /-- `busyFlags` (R36) -/
  busyFlags : UnitMask
  /-- `rewindFlags` (R37) -/
  rewindFlags : UnitMask
  /-- `currentUnit` (R38) -/
  currentUnit : Nat
  /-- `statusUnit` (R39) -/
  statusUnit : Nat
  /-- `delayCounter` (R40) -/
  delayCounter : Nat
  /-- `bgCounter` (R41) -/
  bgCounter : Nat
  /-- `recOpen` (R51) -/
  recOpen : Bool
  deriving DecidableEq, Repr

/-- The context at device attach (R49, R340). -/
def Ctx.attach (e : RegEntry) (nsense : Nat) : Ctx where
  address := e.base
  state := .idle
  phase := .pNone
  selected := false
  currentCommand := 0x00
  commandDone := true
  chaining := false
  dataByte := 0x00
  dataReady := false
  dataEnd := false
  status := 0x00
  senseBytes := List.replicate nsense 0x00
  senseIndex := 0
  pendingUnit := 0
  readyFlags := 0
  busyFlags := 0
  rewindFlags := 0
  currentUnit := 0
  statusUnit := 0
  delayCounter := 0
  bgCounter := 0
  recOpen := false

/-- A controller of the registry: its registry entry (R300, a constant) and its context. -/
structure Controller where
  entry : RegEntry
  ctx : Ctx
  deriving DecidableEq, Repr

/-- One codec call as it was made: the controller's registry index, the sub-unit whose codec was called, the call. -/
structure CallRecord where
  ctrl : Nat
  unit : Nat
  call : CodecCall
  deriving DecidableEq, Repr

/-- The boundary with the environment (R8, R42), the model's own fields (log entry 2): what the environment will supply,
as lists the step reads in order, counters that name the free values used when a list is empty, and the codec calls made.
None of it is a register of the block. -/
structure Env where
  /-- the channel's lines of the current bus cycle (head) and of the cycles after it (R110) -/
  lines : List CycleIn
  /-- the codec's answers to the coming calls, in the order of the calls (R47) -/
  answers : List CodecAnswer
  /-- the device conditions of the coming samples, in the order they are sampled (R48) -/
  conds : List DevCond
  /-- the coming overrun draws (R212) -/
  lates : List Bool
  /-- how many answers, samples and draws have been taken -/
  drawn : Nat
  /-- how many bus cycles have been completed (R9) -/
  cycle : Nat
  /-- the codec calls made so far, the newest first (R47) -/
  calls : List CallRecord
  deriving DecidableEq, Repr

/-- The machine: the controllers of one tag bus in registry order (R300), cut at the one whose turn it is to step. The
controllers in `before` have stepped in this bus cycle, `cur` steps next, those in `after` step after it (R110, R111). -/
structure State where
  params : Params
  before : List Controller
  cur : Controller
  after : List Controller
  env : Env
  deriving DecidableEq, Repr

/-- Why the machine could stop with a fault. There is no constructor, because the spec has no fault: "No behaviour of the
block is treated as `fault`" (spec/93_implementation_defined.md, after I30), "the controller never panics" (R310), the
rules are total (R352). Nobody raises one; safe. -/
inductive Fault where
  deriving DecidableEq, Repr

/-- Why the model gives no meaning. -/
inductive Refusal where
  /-- Raised by an arm of `exec` for an instruction that has no meaning yet: no arm does. Safe. -/
  | notModelled (mnemonic : String)
  /-- Raised by `step` and by `State.attach` for a configuration that breaks a constraint of R7 or R302 (overlapping
  address ranges, a range past 0xFF, a controller without sub-units, NSENSE below 2, REWIND_CHUNK of 0): the spec refuses
  it and builds no machine from it (R7, R302, I10). Safe: nothing is claimed of such a configuration. -/
  | illegalConfiguration
  deriving DecidableEq, Repr

/-- The controllers of the bus in registry order. -/
def State.controllers (s : State) : List Controller := s.before ++ s.cur :: s.after

/-- The registry (R300). -/
def State.registry (s : State) : List RegEntry := s.controllers.map Controller.entry

/-- `NCTRL` (R7). -/
def State.nctrl (s : State) : Nat := s.controllers.length

/-- The registry index of the controller whose turn it is. -/
def State.index (s : State) : Nat := s.before.length

/-- The context of the controller whose turn it is. -/
def State.ctx (s : State) : Ctx := s.cur.ctx

/-- `NUNITS` of the controller whose turn it is. -/
def State.nunits (s : State) : Nat := s.cur.entry.nunits

/-- The state with another context for the controller whose turn it is. -/
def State.setCtx (s : State) (c : Ctx) : State := { s with cur := { s.cur with ctx := c } }

/-- The state with the current context changed by `f`. -/
def State.mapCtx (s : State) (f : Ctx → Ctx) : State := s.setCtx (f s.ctx)

/-- The state with another environment. -/
def State.setEnv (s : State) (e : Env) : State := { s with env := e }

/-- An environment that has listed nothing and received nothing. -/
def Env.empty : Env := ⟨[], [], [], [], 0, 0, []⟩

/-- Every controller attached, with the first about to step its first cycle (R340). -/
def State.attached (p : Params) (e : RegEntry) (es : List RegEntry) : State where
  params := p
  before := []
  cur := ⟨e, Ctx.attach e p.nsense⟩
  after := es.map fun k => ⟨k, Ctx.attach k p.nsense⟩
  env := Env.empty

/-- The machine right after attach with the default configuration of R7: every register at the "at attach" value of R49,
nothing listed for the environment. -/
def State.reset : State := State.attached Params.default RegEntry.default []

end Sys2Proof.Machine
end

