-- ==== Sys2Proof/Machine/Flags.lean ====
section
/-! DEFINITION. The bits: the status byte (spec/30_encoding.md R88), the sense byte 0 flags (R90), parity and the bus word
(spec/41_command_decode_status.md R161, R162, spec/20_memory.md R62), and the sub-unit masks (R72 (e)). -/

namespace Sys2Proof.Machine

/-! ## Status byte (R88) -/

/-- attention; no rule generates it -/
def ATTN : Byte := 0x80
/-- status-modifier; no rule generates it -/
def SM : Byte := 0x40
/-- control-unit-end; no rule generates it -/
def CUE : Byte := 0x20
/-- busy -/
def BUSY : Byte := 0x10
/-- channel-end -/
def CE : Byte := 0x08
/-- device-end -/
def DE : Byte := 0x04
/-- unit-check -/
def UC : Byte := 0x02
/-- unit-exception -/
def UE : Byte := 0x01

/-- `composeStatus(flags)` (R161): the OR of the masks of the flags given. -/
def composeStatus (flags : List Byte) : Byte := flags.foldr (· ||| ·) 0x00

/-! ## Sense byte 0 (R90) -/

/-- command reject -/
def CMD_REJECT : Byte := 0x80
/-- intervention required -/
def INT_REQ : Byte := 0x40
/-- bus check -/
def BUS_CHECK : Byte := 0x20
/-- equipment check -/
def EQUIP_CHECK : Byte := 0x10
/-- data check; no rule sets it -/
def DATA_CHECK : Byte := 0x08
/-- overrun -/
def OVERRUN : Byte := 0x04
/-- data converter check; no rule sets it -/
def DCC : Byte := 0x02

/-! ## Parity (R162) -/

/-- XOR of the eight bits of a byte (R72 (f)). -/
def xorBits (b : Byte) : Bool :=
  b.getLsbD 7 ^^ b.getLsbD 6 ^^ b.getLsbD 5 ^^ b.getLsbD 4 ^^ b.getLsbD 3 ^^ b.getLsbD 2 ^^ b.getLsbD 1 ^^ b.getLsbD 0

/-- `parity(b)`: 1 when the byte has an even number of one-bits (R162). -/
def parity (b : Byte) : Bool := !xorBits b

/-- `par(b)`: the bus word of a byte with odd parity (R162). -/
def busWord (b : Byte) : BusWord := BitVec.ofBool (parity b) ++ b

/-- `w[7:0]`, the data byte of a bus word (R62). -/
def busByte (w : BusWord) : Byte := w.extractLsb' 0 8

/-- `parityOK(w)` (R162). -/
def parityOK (w : BusWord) : Bool := w.getLsbD 8 == parity (busByte w)

/-! ## Sub-unit masks (R72 (e)) -/

/-- `bit(u)`: the mask `1 << u`. -/
def bit (u : Nat) : UnitMask := 1#16 <<< u

/-- `m & bit(u) != 0`. -/
def hasBit (m : UnitMask) (u : Nat) : Bool := m &&& bit u != 0

/-- `m | bit(u)`. -/
def addBit (m : UnitMask) (u : Nat) : UnitMask := m ||| bit u

/-- `m & ~bit(u)`. -/
def dropBit (m : UnitMask) (u : Nat) : UnitMask := m &&& ~~~ bit u

end Sys2Proof.Machine
end

