-- ==== Sys2Proof/Machine/Operands.lean ====
section
/-! DEFINITION. What a step reads besides the context: the lines of the cycle, `stay`, the lines of the other controllers,
the address scanner, the device conditions, the codec's next answer, the overrun draw; and the outputs of a controller as
a function of its context (spec/40_selection_sequencer.md R111, R115, R118, R119, spec/45_address_scanner.md). -/

namespace Sys2Proof.Machine

/-! ## The channel's lines -/

/-- The channel's lines of bus cycle `n`: the listed ones, else the free value of that cycle (R8, R110). -/
def Env.line (e : Env) : CycleIn :=
  match e.lines with
  | l :: _ => l
  | [] => Config.freeLine e.cycle

/-- `O`: the out-tags of this cycle. -/
def State.out (s : State) : OutTags := s.env.line.out

/-- `busOut`: the bus-out word of this cycle. -/
def State.busOut (s : State) : BusWord := s.env.line.busOut

/-! ## Outputs of a controller -/

/-- `drive(ctx)` (R115). -/
def drive (c : Ctx) : InTags where
  opr := c.selected
  adr := c.phase == .pAddrIn
  sta := c.phase == .pStatus || c.phase == .pBusy
  srv := c.phase == .pService
  req := c.phase == .pReq

/-- `busDrive(ctx)` (R115): the address, the status, the busy status or the data byte, each with its parity; else all
nine lines low. -/
def busDrive (c : Ctx) : BusWord :=
  match c.phase with
  | .pAddrIn => busWord (c.address + BitVec.ofNat 8 c.currentUnit)
  | .pStatus => busWord c.status
  | .pBusy => busWord BUSY
  | .pService => if c.state = .dataOut then busWord c.dataByte else 0x000
  | .pNone => 0x000
  | .pAddrWait => 0x000
  | .pCmdWait => 0x000
  | .pStatusAck => 0x000
  | .pServiceAck => 0x000
  | .pReq => 0x000

/-- The wired-OR of the drives of some controllers (R110). -/
def driveAll (ks : List Controller) : InTags := (ks.map fun k => drive k.ctx).foldr InTags.or InTags.down

/-- `tagsIn`: the in-tags as the channel sees them (R110). -/
def State.tagsIn (s : State) : InTags := driveAll s.controllers

/-- `busIn`: the bus-in word as the channel sees it (R110). -/
def State.busIn (s : State) : BusWord := (s.controllers.map fun k => busDrive k.ctx).foldr (· ||| ·) 0x000

/-- `others` (R111): the drives of the controllers that have stepped in this cycle, after their step, and of those that
have not, as the previous cycle left them. So a controller that releases the bus is seen to have done so by those after it
in the same cycle, and by those before it in the next (R107, last paragraph; R352 item 5). -/
def State.others (s : State) : InTags := driveAll (s.before ++ s.after)

/-- "bus free" (R119). -/
def State.busFree (s : State) : Bool :=
  !s.others.opr && !s.others.adr && !s.others.sta && !s.others.srv

/-! ## The address scanner -/

/-- `scan` over a registry whose first entry has index `i` (R301). -/
def scanFrom (a : Byte) : Nat → List RegEntry → Option (Nat × Nat)
  | _, [] => none
  | i, e :: es =>
    if e.base.toNat ≤ a.toNat ∧ a.toNat < e.base.toNat + e.nunits then some (i, a.toNat - e.base.toNat)
    else scanFrom a (i + 1) es

/-- `scan(a)` (R301): the controller and the sub-unit that own an address. -/
def scan (reg : List RegEntry) (a : Byte) : Option (Nat × Nat) := scanFrom a 0 reg

/-- The sub-unit of this controller that the word on bus-out addresses, if the word has good parity (R97, R288, R303). -/
def State.addressedUnit (s : State) : Option Nat :=
  if parityOK s.busOut then
    match scan s.registry (busByte s.busOut) with
    | some (i, u) => if i = s.index then some u else none
    | none => none
  else none

/-- No two ranges of a registry share an address (R302). -/
def disjointFrom (e : RegEntry) (es : List RegEntry) : Bool :=
  es.all fun k => decide (e.base.toNat + e.nunits ≤ k.base.toNat ∨ k.base.toNat + k.nunits ≤ e.base.toNat)

/-- A registry that R7 and R302 accept: each controller has 1 to 16 sub-units, no range passes 0xFF, none overlap. -/
def legalRegistry : List RegEntry → Bool
  | [] => true
  | e :: es =>
    decide (1 ≤ e.nunits ∧ e.nunits ≤ 16 ∧ e.base.toNat + e.nunits ≤ 256) && disjointFrom e es && legalRegistry es

/-- Parameters that R7 accepts. -/
def legalParams (p : Params) : Bool := decide (2 ≤ p.nsense ∧ 1 ≤ p.rewindChunk ∧ p.detail.length = 8)

/-- A configuration from which a machine is built (R7, R302). -/
def State.legal (s : State) : Bool := legalParams s.params && legalRegistry s.registry

/-- Building the machine (R302, R340): a legal configuration gives the machine at attach, any other is refused. A
registry has at least one controller (R7). -/
def State.attach (p : Params) : List RegEntry → Except Refusal State
  | [] => .error .illegalConfiguration
  | e :: es =>
    if (State.attached p e es).legal then .ok (State.attached p e es) else .error .illegalConfiguration

/-! ## Draws from the environment -/

/-- The codec's answer to the next call (R47). -/
def State.nextAnswer (s : State) : CodecAnswer :=
  match s.env.answers with
  | a :: _ => a
  | [] => Config.freeAnswer s.env.drawn

/-- A codec call made on sub-unit `u` of this controller: it takes one answer and is recorded (R47). -/
def State.noteCall (s : State) (u : Nat) (k : CodecCall) : State :=
  s.setEnv { s.env with
    answers := s.env.answers.tail
    drawn := s.env.drawn + 1
    calls := ⟨s.index, u, k⟩ :: s.env.calls }

/-- The device conditions at the next sample (R48). -/
def State.nextCond (s : State) : DevCond :=
  match s.env.conds with
  | d :: _ => d
  | [] => Config.freeCond s.env.drawn

/-- One sample of the device conditions has been taken. -/
def State.useCond (s : State) : State :=
  s.setEnv { s.env with conds := s.env.conds.tail, drawn := s.env.drawn + 1 }

/-- The next overrun draw `late` (R212). -/
def State.nextLate (s : State) : Bool :=
  match s.env.lates with
  | b :: _ => b
  | [] => Config.freeLate s.env.drawn

/-- One overrun draw has been taken. -/
def State.useLate (s : State) : State :=
  s.setEnv { s.env with lates := s.env.lates.tail, drawn := s.env.drawn + 1 }

/-- `detail(u)` for a sample of the conditions of `u` (R91): the entry of the configured table. -/
def detailByte (p : Params) (d : DevCond) : Byte :=
  p.detail.getD (4 * d.attached.toNat + 2 * d.atLoadPoint.toNat + d.readOnly.toNat) 0x00

end Sys2Proof.Machine
end

