-- ==== Sys2Proof/Machine/Ops.lean ====
section
/-! DEFINITION. The operations the rules share: recording an error (`senseSet`, the block's way of taking an exception,
spec/60_exceptions.md R310, R311), presenting status (`enterDataEnd`, spec/42_data_transfer.md R224 to R229) and the return
from it (`endAccepted`, spec/44_ending_status.md R274), `rest()`, codec calls, and the steps of a byte transfer. -/

namespace Sys2Proof.Machine

/-! ## Recording an error: the exception of this hardware (R310, R311) -/

/-- A mask OR-ed into sense byte 0. -/
def orFirst (mask : Byte) : List Byte → List Byte
  | [] => []
  | b :: bs => (b ||| mask) :: bs

/-- All sense bytes zero, as many as before. -/
def zeroBytes (bs : List Byte) : List Byte := bs.map fun _ => 0x00

/-- `senseSet(u, mask)` (R311): the only writer of the sense registers. Sense pending for another sub-unit is discarded,
and with it the unit-check of that sub-unit where no status has been composed yet (R226, R260). A status byte already
composed is not touched: R356 says that the unit-check of a stacked status is lost too, while R46, R113, R282 and R322
keep the stacked byte, and the model keeps it. DESIGN CHOICE, log entry 20. -/
def senseSet (u : Nat) (mask : Byte) (c : Ctx) : Ctx :=
  { c with
    senseBytes :=
      orFirst mask (if c.pendingUnit ≠ 0 ∧ c.statusUnit ≠ u then zeroBytes c.senseBytes else c.senseBytes)
    statusUnit := u
    pendingUnit := bit u }

/-- `senseSet` for the sub-unit of the active command. -/
def senseCurrent (mask : Byte) (c : Ctx) : Ctx := senseSet c.currentUnit mask c

/-! ## Small steps on the context -/

/-- `status <- status | X` (R161). -/
def addStatus (x : Byte) (c : Ctx) : Ctx := { c with status := c.status ||| x }

/-- `phase <- p`. -/
def toPhase (p : Phase) (c : Ctx) : Ctx := { c with phase := p }

/-- `rest()` (R279): READY before WAIT before IDLE. -/
def restState (c : Ctx) : CState :=
  if c.readyFlags ≠ 0 then .ready else if c.busyFlags ≠ 0 then .wait else .idle

/-- `state <- rest()`. -/
def toRest (c : Ctx) : Ctx := { c with state := restState c }

/-- `selected <- 0` unless `stay` holds (R118). -/
def keepBus (o : OutTags) (c : Ctx) : Ctx := { c with selected := c.selected && o.stay }

/-- `done(u)` (R253): the background action of `u` is over and its device-end is owed. -/
def backgroundDone (u : Nat) (c : Ctx) : Ctx :=
  { c with
    busyFlags := dropBit c.busyFlags u
    rewindFlags := dropBit c.rewindFlags u
    readyFlags := addBit c.readyFlags u }

/-- A background action of the current sub-unit begins (R227, R276): the counter is loaded when none was running. -/
def beginBackground (dBg : Nat) (rewinding : Bool) (c : Ctx) : Ctx :=
  { c with
    bgCounter := if c.busyFlags = 0 then dBg else c.bgCounter
    busyFlags := addBit c.busyFlags c.currentUnit
    rewindFlags := if rewinding then addBit c.rewindFlags c.currentUnit else c.rewindFlags }

/-! ## Presenting status: `enterDataEnd` (R224) -/

/-- R225: the record is closed if one is open. -/
def closeRecord (s : State) : State :=
  if s.ctx.recOpen then
    let t := (s.noteCall s.ctx.currentUnit .finishRecord).mapCtx fun c => { c with recOpen := false }
    match s.nextAnswer.result with
    | .error => t.mapCtx (senseCurrent EQUIP_CHECK)
    | .endOfMedium => if s.ctx.currentCommand = 0x01 then t.mapCtx (addStatus UE) else t
    | .ok => t
    | .markHit => t
  else s

/-- R226: unit-check when sense is pending for the current sub-unit, except in SNS. -/
def addUnitCheck (c : Ctx) : Ctx :=
  if hasBit c.pendingUnit c.currentUnit ∧ c.currentCommand ≠ 0x04 then addStatus UC c else c

/-- R227: a status without device-end marks the sub-unit busy; the device-end follows through READY. -/
def withholdDeviceEnd (dBg : Nat) (c : Ctx) : Ctx :=
  if c.status &&& DE = 0 then beginBackground dBg false c else c

/-- R228 and R229: DATA_END goes on to END with the status on the bus when selected, and waits for the bus when not. -/
def presentEnding (c : Ctx) : Ctx :=
  if c.selected then { c with state := .ending, phase := .pStatus }
  else { c with state := .dataEnd, phase := .pNone }

/-- `enterDataEnd` (R224): what every command that reached execution passes through when its work is over. -/
def enterDataEnd (s : State) : State :=
  (closeRecord (s.mapCtx fun c => { c with commandDone := true, dataReady := false, delayCounter := 0 })).mapCtx fun c =>
    presentEnding (withholdDeviceEnd s.params.dBg (addUnitCheck c))

/-- `dataEnd <- 1; status <- status | X; enterDataEnd` (R191, R204, R207, R210). -/
def endData (x : Byte) (s : State) : State :=
  enterDataEnd (s.mapCtx fun c => addStatus x { c with dataEnd := true })

/-- `status <- status | CE | DE; enterDataEnd`, with `dataEnd` untouched (R249). -/
def endMotion (s : State) : State := enterDataEnd (s.mapCtx (addStatus (CE ||| DE)))

/-! ## Return: the status is accepted (R274) -/

/-- R275: a completed SNS clears the sense of its own sub-unit. -/
def clearSense (c : Ctx) : Ctx :=
  if c.currentCommand = 0x04 ∧ c.pendingUnit = bit c.currentUnit then
    { c with senseBytes := zeroBytes c.senseBytes, pendingUnit := 0 }
  else c

/-- R276: an accepted REW or RUN starts the rewind. -/
def startRewind (dBg : Nat) (c : Ctx) : Ctx :=
  if c.currentCommand = 0x07 ∨ c.currentCommand = 0x0F then beginBackground dBg true c else c

/-- R274 step 4: chained WAIT, or release of the bus and rest. -/
def chainOrRest (o : OutTags) (c : Ctx) : Ctx :=
  if c.chaining && c.selected && o.stay then { c with state := .wait }
  else toRest { c with selected := false, chaining := false }

/-- The end-accepted rule R274 on the context, in its order. -/
def endAcceptedCtx (dBg : Nat) (o : OutTags) (c : Ctx) : Ctx :=
  chainOrRest o
    { startRewind dBg (clearSense c) with status := 0x00, currentCommand := 0x00, phase := .pNone }

/-- End-accepted (R274): the common conclusion of an operation. -/
def endAccepted (o : OutTags) (s : State) : State := s.mapCtx (endAcceptedCtx s.params.dBg o)

/-! ## Byte transfers -/

/-- Offering the byte in `dataByte` (R211): to the channel when selected, else REQUEST. -/
def offerByte (s : State) : State :=
  s.mapCtx fun c => if c.selected then { c with state := .dataOut, phase := .pService } else { c with state := .request }

/-- Asking for a byte of a WR (R205, R211). -/
def requestByte (s : State) : State :=
  s.mapCtx fun c => if c.selected then { c with state := .dataIn, phase := .pService } else { c with state := .request }

/-- The overrun draw (R212). -/
def drawOverrun (s : State) : State :=
  if s.nextLate then s.useLate.mapCtx (senseCurrent OVERRUN) else s.useLate

/-- `senseOut(i)` for the current sub-unit, with the detail byte that was composed for it (R208). -/
def senseOut (c : Ctx) (i : Nat) (detail : Byte) : Byte :=
  (if hasBit c.pendingUnit c.currentUnit then c.senseBytes.getD i 0x00 else 0x00) ||| (if i = 1 then detail else 0x00)

/-! ## The shared shapes of a command's work -/

/-- The start of a command's work, common part (R190) with the `stay` test of R192, which comes first. -/
def beginWork (o : OutTags) (s : State) : State :=
  s.mapCtx fun c => keepBus o { c with status := 0x00, phase := .pNone }

/-- A step in OPERATE (R200): release of the bus when `stay` is lost, then the delay, then the device step. -/
def operate (o : OutTags) (device : State → State) (s : State) : State :=
  let t := s.mapCtx (keepBus o)
  if 0 < t.ctx.delayCounter then t.mapCtx fun c => { c with delayCounter := c.delayCounter - 1 } else device t

/-- `skip(dir)` (R240): the answer it gives. -/
def skipResult (start : CodecCall) (s : State) : CodecResult :=
  match s.nextAnswer.result with
  | .ok =>
    match (s.noteCall s.ctx.currentUnit start).nextAnswer.result with
    | .error => .error
    | .ok => .ok
    | .endOfMedium => .ok
    | .markHit => .ok
  | .endOfMedium => .endOfMedium
  | .markHit => .markHit
  | .error => .error

/-- `skip(dir)` (R240): the calls it makes, the start call and `finishRecord` when the start call answers `ok`. -/
def skipCalls (start : CodecCall) (s : State) : State :=
  let t := s.noteCall s.ctx.currentUnit start
  match s.nextAnswer.result with
  | .ok => t.noteCall s.ctx.currentUnit .finishRecord
  | .endOfMedium => t
  | .markHit => t
  | .error => t

end Sys2Proof.Machine
end

