-- ==== Sys2Proof/Machine/Background.lean ====
section
/-! DEFINITION. The background tick, stage 1 of every step (spec/43_motion_control.md R251 to R254). -/

namespace Sys2Proof.Machine

/-- The tick for one sub-unit, when the counter has run out: a rewind goes on by one `rewind` call, any other background
action is over (R252 to R254). -/
def tickUnit (s : State) (u : Nat) : State :=
  if hasBit s.ctx.busyFlags u then
    if hasBit s.ctx.rewindFlags u then
      let t := s.noteCall u (.rewind s.params.rewindChunk)
      match s.nextAnswer.result with
      | .ok => t
      | .markHit => t
      | .endOfMedium => t.mapCtx (backgroundDone u)
      | .error => t.mapCtx fun c => backgroundDone u (senseSet u EQUIP_CHECK c)
    else s.mapCtx (backgroundDone u)
  else s

/-- The sub-units in ascending order. -/
def tickUnits (s : State) : State := (List.range s.nunits).foldl tickUnit s

/-- The background tick (R252). -/
def tick (s : State) : State :=
  if s.ctx.busyFlags = 0 then s
  else if 0 < s.ctx.bgCounter then s.mapCtx fun c => { c with bgCounter := c.bgCounter - 1 }
  else (tickUnits s).mapCtx fun c => { c with bgCounter := s.params.dBg }

end Sys2Proof.Machine
end

