-- ==== Sys2Proof/Machine/Cycle.lean ====
section
/-! DEFINITION. Fetching: which instruction the controller whose turn it is meets in this cycle (spec/40_selection_sequencer.md
R113, spec/20_memory.md R71, spec/42_data_transfer.md R201); the order of the controllers within a bus cycle (R110, R111);
and how a word is put where the next step fetches it. -/

namespace Sys2Proof.Machine

/-- What qualifies the tag events for the controller whose turn it is (R95). -/
def State.qual (s : State) : Qual where
  phase := s.ctx.phase
  selected := s.ctx.selected
  chained := s.ctx.state == .wait && s.ctx.chaining
  busFree := s.busFree
  addressed := s.addressedUnit.isSome
  statusReq := s.ctx.state == .ready || s.ctx.state == .stack || s.ctx.state == .dataEnd

/-- The word the controller fetches. The out-tags say which event the cycle is (R113). Where that event's rule runs a
command, the word is the command byte: the byte on bus-out when Command-Out answers Address-In in SELECT (R71, R128);
`currentCommand` when the initial status is over and work is pending (R190, R191), and in OPERATE, where no event is
needed (R200, R201). -/
def State.fetch (s : State) : Word :=
  match decodeTags s.qual s.out with
  | .ecmd _ _ _ _ => if s.ctx.state = .select then .command (busByte s.busOut) else .tags s.out.word
  | .eackdrop _ _ _ _ =>
    if s.ctx.state = .initStatus ∧ s.ctx.commandDone = false then .command s.ctx.currentCommand
    else .tags s.out.word
  | .hold _ =>
    if s.ctx.state = .operate ∧ s.ctx.phase = .pNone then .command s.ctx.currentCommand else .tags s.out.word
  | _ => .tags s.out.word

/-- The instruction the controller whose turn it is runs in this cycle. -/
def State.current (s : State) : Instr := decode s.qual s.fetch

/-- The bus cycle is over: the channel's next lines are the ones of the next cycle (R110). -/
def Env.nextCycle (e : Env) : Env := { e with lines := e.lines.tail, cycle := e.cycle + 1 }

/-- The turn passes to the next controller in registry order; after the last one the next bus cycle begins with the first
(R110, R111). -/
def advance (s : State) : State :=
  match s.after with
  | k :: ks => { s with before := s.before ++ [s.cur], cur := k, after := ks }
  | [] =>
    match s.before with
    | [] => { s with env := s.env.nextCycle }
    | k :: ks => { s with before := [], cur := k, after := ks ++ [s.cur], env := s.env.nextCycle }

/-! ## Placing a word -/

/-- The state in which a controller takes `tablePhase` of a pattern as its own event (log entry 3). -/
def tableState : Phase → CState
  | .pNone => .idle
  | .pReq => .request
  | .pAddrIn => .request
  | .pStatus => .ending
  | .pAddrWait => .select
  | .pStatusAck => .ending
  | .pBusy => .idle
  | .pCmdWait => .request
  | .pService => .dataIn
  | .pServiceAck => .dataIn

/-- One line listed in front of the channel's lines. -/
def State.pushLine (s : State) (l : CycleIn) : State := s.setEnv { s.env with lines := l :: s.env.lines }

/-- A word put where the next step fetches it: a command byte on bus-out under Command-Out, for a controller that is
selected and has its address on bus-in; out-tags on the lines, for a controller in a phase that has the event, with its
own address on bus-out. -/
def placeWord (s : State) (nbits w : Nat) : State :=
  match tableWord nbits w with
  | .error _ => s
  | .ok (.command c) =>
    (s.mapCtx fun k => { k with state := .select, phase := .pAddrIn, selected := true }).pushLine
      ⟨⟨true, true, true, false, true, false, false⟩, busWord c⟩
  | .ok (.tags t) =>
    let o := OutTags.ofWord t
    (s.mapCtx fun k =>
        { k with state := tableState (tablePhase o), phase := tablePhase o, selected := (tableQual o).selected }).pushLine
      ⟨o, busWord s.ctx.address⟩

end Sys2Proof.Machine
end

