-- ==== Sys2Proof/Machine/Capture.lean ====
section
/-! DEFINITION. Command capture (spec/41_command_decode_status.md R170 to R183): the ordered table of checks, the common
effect of a rejection, and what an accepted command leaves in the context. -/

namespace Sys2Proof.Machine

/-- The common effect of every rejection (R179), after the sense bit has been recorded. -/
def reject (mask : Byte) (c : Ctx) : Ctx :=
  { senseCurrent mask c with status := CE ||| DE ||| UC, currentCommand := 0x00, commandDone := true }

/-- R172: a device-end that the sub-unit owes is presented instead of executing the command. -/
def presentPending (cmd : Byte) (w : BusWord) (c : Ctx) : Ctx :=
  { c with
    status :=
      DE ||| (if cmd = 0x00 ∧ parityOK w then 0x00 else BUSY) |||
        (if hasBit c.pendingUnit c.currentUnit then UC else 0x00)
    currentCommand := 0x00
    commandDone := true }

/-- A command concluded at initial status (R180 to R182). -/
def conclude (st cmd : Byte) (c : Ctx) : Ctx := { c with status := st, currentCommand := cmd, commandDone := true }

/-- A command with work pending (R183). -/
def acceptWork (cmd : Byte) (c : Ctx) : Ctx := { c with status := 0x00, currentCommand := cmd, commandDone := false }

/-- The commands a sub-unit that is not ready accepts: TIO, the CONTROL class and SNS (R176). -/
def acceptedNotReady (cmd : Byte) : Bool := cmd == 0x00 || classOf cmd == 3 || cmd == 0x04

/-- WR, WTM, ERG (R177). -/
def writesMedium (cmd : Byte) : Bool := cmd == 0x01 || cmd == 0x1F || cmd == 0x17

/-- RDB, BSB, BSF (R178). -/
def movesBackward (cmd : Byte) : Bool := cmd == 0x0C || cmd == 0x27 || cmd == 0x2F

/-- The table of R170, in its order, on a context whose transfer registers have been cleared. -/
def captureTable (cmd : Byte) (w : BusWord) (d : DevCond) (c : Ctx) : Ctx :=
  if hasBit c.readyFlags c.currentUnit then presentPending cmd w c
  else if !parityOK w then reject BUS_CHECK c
  else if !legal cmd then reject CMD_REJECT c
  else if hasBit c.pendingUnit c.currentUnit && cmd != 0x04 then reject CMD_REJECT c
  else if !d.attached && !acceptedNotReady cmd then reject INT_REQ c
  else if d.readOnly && writesMedium cmd then reject CMD_REJECT c
  else if d.atLoadPoint && movesBackward cmd then reject CMD_REJECT c
  else if cmd = 0x00 then conclude 0x00 0x00 c
  else if classOf cmd = 3 then conclude (CE ||| DE) cmd c
  else if cmd = 0x07 ∨ cmd = 0x0F then conclude CE cmd c
  else acceptWork cmd c

/-- Command capture (R170): the transfer registers are cleared, the conditions are sampled, the table is applied, and the
controller goes to COMMAND (R128). -/
def capture (cmd : Byte) (s : State) : State :=
  s.useCond.mapCtx fun c =>
    { captureTable cmd s.busOut s.nextCond
        { c with dataReady := false, dataEnd := false, senseIndex := 0, delayCounter := 0 } with
      state := .command
      phase := .pCmdWait }

/-- A command that is concluded at initial status has three places where it acts: capture (R170), the end of the initial
status (R189), and none in OPERATE, where it cannot be found (R201) and only the delay of R200 passes. -/
def concludedCommand (cmd : Byte) (s : State) : State :=
  match s.ctx.state, s.ctx.phase with
  | .select, .pAddrIn => if s.out.isCommandOut then capture cmd s else s
  | .initStatus, .pStatusAck =>
    if s.out.isAckDrop then (if s.ctx.commandDone then endAccepted s.out s else s) else s
  | .operate, .pNone => operate s.out id s
  | _, _ => s

/-- A command with work has three places where it acts: capture (R170), the start of its work when the initial status is
over (R188 to R192), and the device step (R200, R201). -/
def workCommand (cmd : Byte) (start device : State → State) (s : State) : State :=
  match s.ctx.state, s.ctx.phase with
  | .select, .pAddrIn => if s.out.isCommandOut then capture cmd s else s
  | .initStatus, .pStatusAck =>
    if s.out.isAckDrop then
      (if s.ctx.commandDone then endAccepted s.out s else start (beginWork s.out s))
    else s
  | .operate, .pNone => operate s.out device s
  | _, _ => s

end Sys2Proof.Machine
end

