-- ==== Sys2Proof/Machine/ControlCommands.lean ====
section
/-! DEFINITION. The commands concluded at capture that move nothing: TIO, CTL and every illegal byte
(spec/41_command_decode_status.md R174, R180, R181). -/

namespace Sys2Proof.Machine

/-- TIO 0x00 (R180). -/
def execTio (s : State) : Host.Outcome State Fault Refusal := .next (concludedCommand 0x00 s)

/-- CTL xxxxx011 (R181): the whole byte goes to `currentCommand`, and the modifier has no effect. -/
def execCtl (mod : BitVec 5) (s : State) : Host.Outcome State Fault Refusal :=
  .next (concludedCommand (mod ++ (3 : BitVec 3)) s)

/-- ILLEGAL (R174): rejected at capture with command-reject. -/
def execIllegal (c : Byte) (s : State) : Host.Outcome State Fault Refusal := .next (concludedCommand c s)

end Sys2Proof.Machine
end

