-- ==== Sys2Proof/Machine/DataCommands.lean ====
section
/-! DEFINITION. The commands that move data: WR, RD, RDB, SNS (spec/41_command_decode_status.md R191,
spec/42_data_transfer.md R200 to R212). -/

namespace Sys2Proof.Machine

/-! ## WR -/

/-- The start of WR (R191): `startWrite`, then the first byte is asked for when the bus was kept. -/
def startWr (s : State) : State :=
  let t := s.noteCall s.ctx.currentUnit .startWrite
  match s.nextAnswer.result with
  | .error => endData (CE ||| DE) (t.mapCtx (senseCurrent EQUIP_CHECK))
  | .endOfMedium => openWrite (t.mapCtx (addStatus UE))
  | .ok => openWrite t
  | .markHit => openWrite t
where
  /-- The record is open; DATA_IN when the bus was kept, else OPERATE (R191, R192). -/
  openWrite (t : State) : State :=
    t.mapCtx fun c =>
      if c.selected then { c with recOpen := true, state := .dataIn, phase := .pService }
      else { c with recOpen := true, state := .operate }

/-- The device step of WR (R205 to R207): a captured byte is written, then the next one is asked for. -/
def deviceWr (s : State) : State :=
  if s.ctx.dataReady then
    let t := drawOverrun
      ((s.noteCall s.ctx.currentUnit (.writeFrame s.ctx.dataByte)).mapCtx fun c => { c with dataReady := false })
    match s.nextAnswer.result with
    | .error => endData (CE ||| DE) (t.mapCtx (senseCurrent EQUIP_CHECK))
    | .endOfMedium => requestByte (t.mapCtx (addStatus UE))
    | .ok => requestByte t
    | .markHit => requestByte t
  else requestByte s

/-! ## RD and RDB -/

/-- The record was opened for reading (R191). -/
def openRead (s : State) : State :=
  s.mapCtx fun c => { c with recOpen := true, delayCounter := s.params.dStart, state := .operate }

/-- The start of RD (R191). -/
def startRd (s : State) : State :=
  let t := s.noteCall s.ctx.currentUnit .startForwardRead
  match s.nextAnswer.result with
  | .ok => openRead t
  | .markHit => endData (CE ||| DE ||| UE) t
  | .endOfMedium => endData (CE ||| DE) (t.mapCtx (senseCurrent EQUIP_CHECK))
  | .error => endData (CE ||| DE) (t.mapCtx (senseCurrent EQUIP_CHECK))

/-- The start of RDB (R191): `end-of-medium` is the load point and gives command-reject. -/
def startRdb (s : State) : State :=
  let t := s.noteCall s.ctx.currentUnit .startBackwardRead
  match s.nextAnswer.result with
  | .ok => openRead t
  | .markHit => endData (CE ||| DE ||| UE) t
  | .endOfMedium => endData (CE ||| DE) (t.mapCtx (senseCurrent CMD_REJECT))
  | .error => endData (CE ||| DE) (t.mapCtx (senseCurrent EQUIP_CHECK))

/-- The device step of RD and RDB (R202 to R204). -/
def deviceRead (s : State) : State :=
  if s.ctx.dataReady then offerByte s
  else
    let t := s.noteCall s.ctx.currentUnit .readFrame
    match s.nextAnswer.result with
    | .ok => offerByte (drawOverrun (t.mapCtx fun c => { c with dataByte := s.nextAnswer.byte, dataReady := true }))
    | .markHit => endData (CE ||| DE) t
    | .endOfMedium => endData (CE ||| DE) (t.mapCtx (senseCurrent EQUIP_CHECK))
    | .error => endData (CE ||| DE) (t.mapCtx (senseCurrent EQUIP_CHECK))

/-! ## SNS -/

/-- The start of SNS (R191): no codec call, no delay. -/
def startSns (s : State) : State := s.mapCtx fun c => { c with state := .operate }

/-- One sense byte is fetched (R208, R209). The device conditions are sampled for byte 1 only. -/
def fetchSense (s : State) : State :=
  let i := s.ctx.senseIndex
  let t := if i = 1 then s.useCond else s
  t.mapCtx fun c =>
    { c with
      dataByte := senseOut c i (if i = 1 then detailByte s.params s.nextCond else 0x00)
      senseIndex := i + 1
      dataReady := true }

/-- The device step of SNS (R209, R210). -/
def deviceSns (s : State) : State :=
  if s.ctx.dataReady then offerByte s
  else if s.ctx.senseIndex < s.params.nsense then offerByte (fetchSense s)
  else endData (CE ||| DE) s

/-! ## The meanings -/

/-- WR 0x01 (R183, R191, R205). -/
def execWr (s : State) : Host.Outcome State Fault Refusal := .next (workCommand 0x01 startWr deviceWr s)

/-- RD 0x02 (R183, R191, R202). -/
def execRd (s : State) : Host.Outcome State Fault Refusal := .next (workCommand 0x02 startRd deviceRead s)

/-- RDB 0x0C (R183, R191, R202). -/
def execRdb (s : State) : Host.Outcome State Fault Refusal := .next (workCommand 0x0C startRdb deviceRead s)

/-- SNS 0x04 (R183, R191, R209, R210). -/
def execSns (s : State) : Host.Outcome State Fault Refusal := .next (workCommand 0x04 startSns deviceSns s)

end Sys2Proof.Machine
end

