-- ==== Sys2Proof/Machine/MotionCommands.lean ====
section
/-! DEFINITION. The eight motion commands (spec/43_motion_control.md R240 to R250). -/

namespace Sys2Proof.Machine

/-- The start of a motion command with work (R191): the delay is loaded; the codec is called when it has run out. -/
def startMotion (s : State) : State :=
  s.mapCtx fun c => { c with delayCounter := s.params.dMotion, state := .operate }

/-- A file-spacing command goes on to its next record (R246, R248). -/
def nextRecord (s : State) : State := s.mapCtx fun c => { c with delayCounter := s.params.dMotion }

/-- The device step of ERG (R243): no codec call. -/
def deviceErg (s : State) : State := endMotion s

/-- The device step of WTM (R244). -/
def deviceWtm (s : State) : State :=
  let t := s.noteCall s.ctx.currentUnit .writeMark
  match s.nextAnswer.result with
  | .ok => endMotion t
  | .markHit => endMotion t
  | .endOfMedium => endMotion (t.mapCtx (addStatus UE))
  | .error => endMotion (t.mapCtx (senseCurrent EQUIP_CHECK))

/-- The device step of BSB (R245). -/
def deviceBsb (s : State) : State :=
  let t := skipCalls .startBackwardRead s
  match skipResult .startBackwardRead s with
  | .ok => endMotion t
  | .markHit => endMotion (t.mapCtx (addStatus UE))
  | .endOfMedium => endMotion (t.mapCtx (senseCurrent CMD_REJECT))
  | .error => endMotion (t.mapCtx (senseCurrent EQUIP_CHECK))

/-- The device step of BSF (R246): repeated until a tape mark. -/
def deviceBsf (s : State) : State :=
  let t := skipCalls .startBackwardRead s
  match skipResult .startBackwardRead s with
  | .ok => nextRecord t
  | .markHit => endMotion t
  | .endOfMedium => endMotion (t.mapCtx (senseCurrent CMD_REJECT))
  | .error => endMotion (t.mapCtx (senseCurrent EQUIP_CHECK))

/-- The device step of FSB (R247). -/
def deviceFsb (s : State) : State :=
  let t := skipCalls .startForwardRead s
  match skipResult .startForwardRead s with
  | .ok => endMotion t
  | .markHit => endMotion (t.mapCtx (addStatus UE))
  | .endOfMedium => endMotion (t.mapCtx (senseCurrent EQUIP_CHECK))
  | .error => endMotion (t.mapCtx (senseCurrent EQUIP_CHECK))

/-- The device step of FSF (R248): repeated until a tape mark. -/
def deviceFsf (s : State) : State :=
  let t := skipCalls .startForwardRead s
  match skipResult .startForwardRead s with
  | .ok => nextRecord t
  | .markHit => endMotion t
  | .endOfMedium => endMotion (t.mapCtx (senseCurrent EQUIP_CHECK))
  | .error => endMotion (t.mapCtx (senseCurrent EQUIP_CHECK))

/-- REW 0x07 (R182, R241): concluded at initial status; the rewind starts when that is accepted (R276). -/
def execRew (s : State) : Host.Outcome State Fault Refusal := .next (concludedCommand 0x07 s)

/-- RUN 0x0F (R182, R242): as REW in every rule; the unloading belongs to the environment. -/
def execRun (s : State) : Host.Outcome State Fault Refusal := .next (concludedCommand 0x0F s)

/-- ERG 0x17 (R183, R191, R243). -/
def execErg (s : State) : Host.Outcome State Fault Refusal := .next (workCommand 0x17 startMotion deviceErg s)

/-- WTM 0x1F (R183, R191, R244). -/
def execWtm (s : State) : Host.Outcome State Fault Refusal := .next (workCommand 0x1F startMotion deviceWtm s)

/-- BSB 0x27 (R183, R191, R245). -/
def execBsb (s : State) : Host.Outcome State Fault Refusal := .next (workCommand 0x27 startMotion deviceBsb s)

/-- BSF 0x2F (R183, R191, R246). -/
def execBsf (s : State) : Host.Outcome State Fault Refusal := .next (workCommand 0x2F startMotion deviceBsf s)

/-- FSB 0x37 (R183, R191, R247). -/
def execFsb (s : State) : Host.Outcome State Fault Refusal := .next (workCommand 0x37 startMotion deviceFsb s)

/-- FSF 0x3F (R183, R191, R248). -/
def execFsf (s : State) : Host.Outcome State Fault Refusal := .next (workCommand 0x3F startMotion deviceFsf s)

end Sys2Proof.Machine
end

