-- ==== Sys2Proof/Machine/CommandTable.lean ====
section
/-! DEFINITION. The two rules that dispatch on `currentCommand`: the start of a command's work
(spec/41_command_decode_status.md R191) and the device step (spec/42_data_transfer.md R201). -/

namespace Sys2Proof.Machine

/-- The start of the work of the command in `currentCommand` (R190, R191). The commands concluded at capture have no row
in R191, and no rule applies to them here. -/
def startCurrent (o : OutTags) (s : State) : State :=
  match instrOfByte s.ctx.currentCommand with
  | .wr => startWr (beginWork o s)
  | .rd => startRd (beginWork o s)
  | .rdb => startRdb (beginWork o s)
  | .sns => startSns (beginWork o s)
  | .erg => startMotion (beginWork o s)
  | .wtm => startMotion (beginWork o s)
  | .bsb => startMotion (beginWork o s)
  | .bsf => startMotion (beginWork o s)
  | .fsb => startMotion (beginWork o s)
  | .fsf => startMotion (beginWork o s)
  | _ => s

/-- The device step of the command in `currentCommand` (R201). No other value is found in OPERATE. -/
def deviceOf (cmd : Byte) : State → State :=
  match instrOfByte cmd with
  | .wr => deviceWr
  | .rd => deviceRead
  | .rdb => deviceRead
  | .sns => deviceSns
  | .erg => deviceErg
  | .wtm => deviceWtm
  | .bsb => deviceBsb
  | .bsf => deviceBsf
  | .fsb => deviceFsb
  | .fsf => deviceFsf
  | _ => id

end Sys2Proof.Machine
end

