-- ==== Sys2Proof/Machine/Handshake.lean ====
section
/-! DEFINITION. The tag events by which the channel answers an in-tag: ECMD, ECMDDROP, EACCEPT, ESTACK, ESTOP, EACKDROP
(spec/40_selection_sequencer.md R128, R135, R136; spec/41 R184 to R189; spec/42 R214 to R221; spec/43 R259 to R263;
spec/44 R272 to R274, R283). Each meaning is a table over the state and the phase; where no rule has the event, the
controller holds (R117), in phases that do not qualify the event as the model's completion (log entry 6). -/

namespace Sys2Proof.Machine

/-! ## ECMD -/

/-- Command-Out answers Address-In: the command byte after an addressed selection (R128), "proceed" after a poll (R135,
R259). -/
def commandOut (s : State) : State :=
  match s.ctx.state, s.ctx.phase with
  | .select, .pAddrIn => capture (busByte s.busOut) s
  | .request, .pAddrIn => s.mapCtx (toPhase .pCmdWait)
  | .stack, .pAddrIn => s.mapCtx (toPhase .pCmdWait)
  | .dataEnd, .pAddrIn => s.mapCtx (toPhase .pCmdWait)
  | .ready, .pAddrIn => s.mapCtx (toPhase .pCmdWait)
  | _, _ => s

/-- ECMD (R100, R128, R135, R259). -/
def execEcmd (_sel _hld _adr _sup : Bool) (s : State) : Host.Outcome State Fault Refusal := .next (commandOut s)

/-! ## ECMDDROP -/

/-- The status that READY delivers for the current sub-unit (R260). -/
def readyStatus (c : Ctx) : Byte := DE ||| (if hasBit c.pendingUnit c.currentUnit then UC else 0x00)

/-- Command-Out has dropped: initial status (R184), resumption after a poll (R136), unsolicited status (R260). -/
def commandDrop (c : Ctx) : Ctx :=
  match c.state, c.phase with
  | .command, .pCmdWait => toPhase .pStatus c
  | .request, .pCmdWait => { c with state := .operate, phase := .pNone }
  | .stack, .pCmdWait => { c with state := .ending, phase := .pStatus }
  | .dataEnd, .pCmdWait => { c with state := .ending, phase := .pStatus }
  | .ready, .pCmdWait => { c with status := readyStatus c, phase := .pStatus }
  | _, _ => c

/-- ECMDDROP (R100, R136, R184, R260). -/
def execEcmddrop (_sel _hld _adr _srv _sup : Bool) (s : State) : Host.Outcome State Fault Refusal :=
  .next (s.mapCtx commandDrop)

/-! ## EACCEPT -/

/-- The initial status is accepted (R186, R173). -/
def acceptInitial (sup : Bool) (c : Ctx) : Ctx :=
  { c with
    readyFlags := dropBit c.readyFlags c.currentUnit
    chaining := c.commandDone && sup
    state := .initStatus
    phase := .pStatusAck }

/-- A byte of a WR is captured (R219). -/
def captureByte (w : BusWord) (c : Ctx) : Ctx :=
  toPhase .pServiceAck
    (if parityOK w then { c with dataByte := busByte w, dataReady := true }
    else senseCurrent BUS_CHECK { c with dataByte := busByte w, dataReady := true })

/-- Service-Out: a status is accepted (R186, R262, R272) or a byte is transferred (R214, R219). -/
def serviceOut (sup : Bool) (w : BusWord) (c : Ctx) : Ctx :=
  match c.state, c.phase with
  | .command, .pStatus => acceptInitial sup c
  | .ready, .pStatus =>
    { c with readyFlags := dropBit c.readyFlags c.currentUnit, chaining := false, phase := .pStatusAck }
  | .ending, .pStatus => { c with chaining := sup, phase := .pStatusAck }
  | .dataOut, .pService => { c with dataReady := false, phase := .pServiceAck }
  | .dataIn, .pService => captureByte w c
  | _, _ => c

/-- EACCEPT (R101): Suppress-Out of the same cycle is the chain signal when a status is accepted. -/
def execEaccept (_sel _hld _adr sup : Bool) (s : State) : Host.Outcome State Fault Refusal :=
  .next (s.mapCtx (serviceOut sup s.busOut))

/-! ## ESTACK -/

/-- The initial status is stacked (R185): a command with work is dropped, a pending device-end stays owed. -/
def stackInitial (c : Ctx) : Ctx :=
  { c with
    currentCommand := if c.commandDone then c.currentCommand else 0x00
    commandDone := true
    status := if hasBit c.readyFlags c.currentUnit then 0x00 else c.status
    state := .stack
    phase := .pStatusAck }

/-- The channel refuses a status (R185, R261, R273). -/
def stackStatus (c : Ctx) : Ctx :=
  match c.state, c.phase with
  | .command, .pStatus => stackInitial c
  | .ready, .pStatus => toPhase .pStatusAck c
  | .ending, .pStatus => { c with state := .stack, phase := .pStatusAck }
  | _, _ => c

/-- ESTACK (R102): Suppress-Out is not examined. -/
def execEstack (_sel _hld _adr _sup : Bool) (s : State) : Host.Outcome State Fault Refusal :=
  .next (s.mapCtx stackStatus)

/-! ## ESTOP -/

/-- The status of a stopped device-to-channel transfer (R215): channel-end alone for RD and RDB, both ends for SNS. -/
def stopStatus (cmd : Byte) : Byte :=
  if cmd = 0x04 then CE ||| DE else if cmd = 0x02 ∨ cmd = 0x0C then CE else 0x00

/-- The channel takes or gives no further byte (R215, R220). -/
def stopTransfer (c : Ctx) : Ctx :=
  match c.state, c.phase with
  | .dataOut, .pService =>
    addStatus (stopStatus c.currentCommand) { c with dataReady := false, dataEnd := true, phase := .pServiceAck }
  | .dataIn, .pService => addStatus (CE ||| DE) { c with dataEnd := true, phase := .pServiceAck }
  | _, _ => c

/-- ESTOP (R103, R215, R220). -/
def execEstop (_sel _hld _adr _sup : Bool) (s : State) : Host.Outcome State Fault Refusal :=
  .next (s.mapCtx stopTransfer)

/-! ## EACKDROP -/

/-- The response to a byte has dropped (R216, R221): the bus is kept or released, then the data phase ends or the next
device step is waited for. -/
def byteDone (o : OutTags) (s : State) : State :=
  let t := s.mapCtx fun c => keepBus o (toPhase .pNone c)
  if s.ctx.dataEnd then enterDataEnd t
  else t.mapCtx fun c => { c with state := .operate, delayCounter := s.params.dByte }

/-- READY's delivery is over (R263). -/
def deliveryDone (c : Ctx) : Ctx := toRest { c with selected := false, phase := .pNone, status := 0x00 }

/-- The response to a stacked status has dropped (R283). -/
def stackDrop (c : Ctx) : Ctx :=
  if c.status = 0x00 then
    toRest { c with selected := false, phase := .pNone, currentCommand := 0x00 }
  else { c with selected := false, phase := .pNone }

/-- The channel's response has dropped: the branch after the initial status (R187 to R192), the end of a byte (R216), the
end of READY's delivery (R263), end-accepted (R274), the drop of a stacked status (R283). -/
def ackDrop (o : OutTags) (s : State) : State :=
  match s.ctx.state, s.ctx.phase with
  | .initStatus, .pStatusAck => if s.ctx.commandDone then endAccepted o s else startCurrent o s
  | .dataOut, .pServiceAck => byteDone o s
  | .dataIn, .pServiceAck => byteDone o s
  | .ready, .pStatusAck => s.mapCtx deliveryDone
  | .ending, .pStatusAck => endAccepted o s
  | .stack, .pStatusAck => if s.ctx.selected then s.mapCtx stackDrop else s
  | _, _ => s

/-- EACKDROP (R187, R216, R263, R274, R283): Select-Out and Hold-Out of the same cycle are `stay`. -/
def execEackdrop (sel hld adr sup : Bool) (s : State) : Host.Outcome State Fault Refusal :=
  .next (ackDrop ⟨true, sel, hld, adr, false, false, sup⟩ s)

end Sys2Proof.Machine
end

