-- ==== Sys2Proof/Machine/Interrupts.lean ====
section
/-! DEFINITION. The two tag events that cut an operation short: the interface reset ERESET
(spec/70_reset_and_hazards.md R341) and halt-in-flight EHALT (spec/40_selection_sequencer.md R140 to R149). -/

namespace Sys2Proof.Machine

/-- ERESET on the context (R341): every register at the "after ERESET" value of R49; `address`, `busyFlags`,
`rewindFlags` and `bgCounter` are unchanged. -/
def resetCtx (c : Ctx) : Ctx :=
  { c with
    state := .idle
    phase := .pNone
    selected := false
    currentCommand := 0x00
    commandDone := true
    chaining := false
    dataByte := 0x00
    dataReady := false
    dataEnd := false
    status := 0x00
    senseBytes := zeroBytes c.senseBytes
    senseIndex := 0
    pendingUnit := 0
    readyFlags := 0
    currentUnit := 0
    statusUnit := 0
    delayCounter := 0
    recOpen := false }

/-- ERESET (R96, R150, R341). -/
def execEreset (_sel _hld _adr _cmd _srv _sup : Bool) (s : State) : Host.Outcome State Fault Refusal :=
  .next (s.mapCtx resetCtx)

/-- The part of EHALT common to all states (R140). -/
def haltCommon (c : Ctx) : Ctx := { c with selected := false, phase := .pNone, chaining := false }

/-- The command is discarded before any status was accepted (R141). -/
def haltBeforeStatus (c : Ctx) : Ctx :=
  toRest { c with
    currentCommand := 0x00
    commandDone := true
    status := 0x00
    dataReady := false
    dataEnd := false }

/-- The running command is ended (R143): channel-end, and device-end unless a record is open. -/
def haltTransfer (s : State) : State :=
  enterDataEnd (s.mapCtx fun c =>
    addStatus (CE ||| (if c.recOpen then 0x00 else DE)) { c with dataReady := false, dataEnd := true })

/-- EHALT by state and phase (R141 to R147). The phase is the one before the halt. -/
def haltByState (o : OutTags) (st : CState) (ph : Phase) (s : State) : State :=
  match st with
  | .select => s.mapCtx haltBeforeStatus
  | .command => s.mapCtx haltBeforeStatus
  | .initStatus => if s.ctx.commandDone then endAccepted o s else endData (CE ||| DE) s
  | .operate => haltTransfer s
  | .dataIn => haltTransfer s
  | .dataOut => haltTransfer s
  | .request => haltTransfer s
  | .dataEnd => s
  | .ending =>
    if ph = .pStatus then s.mapCtx fun c => { c with state := .stack }
    else if ph = .pStatusAck then endAccepted o s
    else s
  | .wait => s.mapCtx toRest
  | .ready =>
    if ph = .pStatusAck then s.mapCtx deliveryDone
    else if ph = .pAddrIn ∨ ph = .pCmdWait ∨ ph = .pStatus then s.mapCtx fun c => { c with status := 0x00 }
    else s
  | .stack => if s.ctx.status = 0x00 then s.mapCtx toRest else s
  | .idle => s

/-- Halt-in-flight (R140): it acts on a selected controller only (R148, R149). -/
def halt (o : OutTags) (s : State) : State :=
  if s.ctx.selected then haltByState o s.ctx.state s.ctx.phase (s.mapCtx haltCommon) else s

/-- EHALT (R99, R140 to R149). -/
def execEhalt (hld cmd srv sup : Bool) (s : State) : Host.Outcome State Fault Refusal :=
  .next (halt ⟨true, false, hld, true, cmd, srv, sup⟩ s)

end Sys2Proof.Machine
end

