-- ==== Sys2Proof/Machine/Resting.lean ====
section
/-! DEFINITION. A cycle without an event for the controller (HOLD): what a state's own rule does without one, and the hold
of spec/40_selection_sequencer.md R117 (R132, R133; spec/42 R200; spec/43 R257; spec/44 R280, R289, R290). -/

namespace Sys2Proof.Machine

/-- Re-evaluation at rest (R280), and the request of READY (R257, R133). -/
def restStep (o : OutTags) (c : Ctx) : Ctx :=
  if restState c = .ready then { c with state := .ready, phase := if o.sup then .pNone else .pReq }
  else toRest c

/-- A request for status is raised while Suppress-Out is down and withdrawn when it is up (R133). -/
def gateRequest (o : OutTags) (c : Ctx) : Ctx :=
  if c.phase = .pNone ∧ o.sup = false then toPhase .pReq c
  else if c.phase = .pReq ∧ o.sup = true then toPhase .pNone c
  else c

/-- Chained WAIT loses `stay` (R289), else it holds (R290). -/
def chainedWait (o : OutTags) (c : Ctx) : Ctx :=
  if o.stay then c else toRest { c with selected := false, chaining := false }

/-- A state of rest, or chained WAIT (R280, R289, R290). -/
def restOrChained (o : OutTags) (c : Ctx) : Ctx :=
  if c.selected then
    if c.state = .wait ∧ c.chaining = true ∧ c.phase = .pNone then chainedWait o c else c
  else if c.phase = .pNone ∨ c.phase = .pReq then restStep o c
  else c

/-- The rule of the current state and phase that needs no event, or the hold of R117. -/
def quietStep (o : OutTags) (s : State) : State :=
  match s.ctx.state with
  | .idle => s.mapCtx (restOrChained o)
  | .wait => s.mapCtx (restOrChained o)
  | .ready => s.mapCtx (restOrChained o)
  | .operate => if s.ctx.phase = .pNone then operate o (deviceOf s.ctx.currentCommand) s else s
  | .request =>
    if s.ctx.selected = false ∧ s.ctx.phase = .pNone then s.mapCtx (toPhase .pReq) else s
  | .dataEnd => if s.ctx.selected then s else s.mapCtx (gateRequest o)
  | .stack => if s.ctx.selected then s else s.mapCtx (gateRequest o)
  | .select => s
  | .command => s
  | .initStatus => s
  | .dataIn => s
  | .dataOut => s
  | .ending => s

/-- HOLD (R105, R117). -/
def execHold (o : OutTags) (s : State) : Host.Outcome State Fault Refusal := .next (quietStep o s)

end Sys2Proof.Machine
end

