-- ==== Sys2Proof/Machine/Selection.lean ====
section
/-! DEFINITION. The tag events that select a controller or end a selection before it has begun: ESEL, ECHAIN, EPOLL,
EABANDON, EADROP, EBUSYEND (spec/40_selection_sequencer.md R121 to R127, R134, spec/43_motion_control.md R258,
spec/44_ending_status.md R288). Each meaning holds (changes nothing) where its event is not qualified,
which is the model's completion (log entry 6): a step never meets it there. -/

namespace Sys2Proof.Machine

/-- ESEL accepted (R121). -/
def selectUnit (u : Nat) (c : Ctx) : Ctx :=
  { c with state := .select, selected := true, phase := .pAddrWait, currentUnit := u, chaining := false }

/-- ESEL for sub-unit `u`, by state: accepted or answered busy at rest (R121, R122), answered busy while an operation is
in progress (R123). No rule has ESEL in the other states. -/
def selectByState (u : Nat) (c : Ctx) : Ctx :=
  match c.state with
  | .idle => if hasBit c.busyFlags u then toPhase .pBusy c else selectUnit u c
  | .wait => if hasBit c.busyFlags u then toPhase .pBusy c else selectUnit u c
  | .ready => if hasBit c.busyFlags u then toPhase .pBusy c else selectUnit u c
  | .operate => toPhase .pBusy c
  | .request => toPhase .pBusy c
  | .dataEnd => toPhase .pBusy c
  | .stack => toPhase .pBusy c
  | .select => c
  | .command => c
  | .initStatus => c
  | .dataIn => c
  | .dataOut => c
  | .ending => c

/-- Addressed selection (R121 to R123) when the qualifier of ESEL holds; otherwise no effect (R125). -/
def addressedSelection (s : State) : State :=
  if !s.ctx.selected && (s.ctx.phase == .pNone || s.ctx.phase == .pReq) && s.busFree then
    match s.addressedUnit with
    | some u => s.mapCtx (selectByState u)
    | none => s
  else s

/-- ESEL (R97, R121 to R123, R125). -/
def execEsel (_sup : Bool) (s : State) : Host.Outcome State Fault Refusal := .next (addressedSelection s)

/-- The chained re-address (R288): to SELECT, still selected, for the same sub-unit when it is not busy; otherwise the bus
is released. -/
def chainedAddress (s : State) : State :=
  if s.ctx.selected && s.ctx.state == .wait && s.ctx.chaining then
    s.mapCtx fun c =>
      if s.addressedUnit = some c.currentUnit ∧ hasBit c.busyFlags c.currentUnit = false then
        { c with chaining := false, state := .select, phase := .pAddrWait }
      else toRest { c with chaining := false, selected := false }
  else s

/-- ECHAIN (R288). -/
def execEchain (_sup : Bool) (s : State) : Host.Outcome State Fault Refusal := .next (chainedAddress s)

/-- The sub-unit that READY serves next (R258): the first in cyclic order after `currentUnit` that owes a device-end. -/
def nextReadyUnit (nunits : Nat) (c : Ctx) : Option Nat :=
  ((List.range nunits).map fun k => (c.currentUnit + (k + 1)) % nunits).find? fun u => hasBit c.readyFlags u

/-- The poll is taken (R134). -/
def takePoll (c : Ctx) : Ctx := { c with selected := true, phase := .pAddrIn }

/-- EPOLL for a controller that is requesting (R134, R258). A request for status is withdrawn when Suppress-Out is up
(R133), which comes first. The poll may be the last line of the channel's answer to another controller: when that one has
released the bus, `busFree` holds and the poll is taken at once (R107, last paragraph). -/
def answerPoll (sup : Bool) (s : State) : State :=
  if s.ctx.phase == .pReq && s.busFree then
    match s.ctx.state with
    | .request => s.mapCtx takePoll
    | .stack => s.mapCtx (if sup then toPhase .pNone else takePoll)
    | .dataEnd => s.mapCtx (if sup then toPhase .pNone else takePoll)
    | .ready =>
      if sup then s.mapCtx (toPhase .pNone)
      else
        match nextReadyUnit s.nunits s.ctx with
        | some u => s.mapCtx fun c => takePoll { c with currentUnit := u }
        | none => s
    | _ => s
  else s

/-- EPOLL (R98, R134, R258). -/
def execEpoll (sup : Bool) (s : State) : Host.Outcome State Fault Refusal := .next (answerPoll sup s)

/-- EABANDON (R127): the channel withdrew the selection. -/
def execEabandon (_hld _cmd _srv _sup : Bool) (s : State) : Host.Outcome State Fault Refusal :=
  .next
    (if s.ctx.state = .select ∧ s.ctx.phase = .pAddrWait then
      s.mapCtx fun c => toRest { c with selected := false, phase := .pNone }
    else s)

/-- EADROP (R126): Address-In is raised. -/
def execEadrop (_sel _hld _cmd _srv _sup : Bool) (s : State) : Host.Outcome State Fault Refusal :=
  .next (if s.ctx.state = .select ∧ s.ctx.phase = .pAddrWait then s.mapCtx (toPhase .pAddrIn) else s)

/-- The end of the short busy sequence (R124). -/
def endBusy (s : State) : State := if s.ctx.phase = .pBusy then s.mapCtx (toPhase .pNone) else s

/-- EBUSYEND with Select-Out down (R124). -/
def execEbusyendSel0 (_hld _adr _cmd _srv _sup : Bool) (s : State) : Host.Outcome State Fault Refusal :=
  .next (endBusy s)

/-- EBUSYEND with Address-Out down (R124). -/
def execEbusyendAdr0 (_sel _hld _cmd _srv _sup : Bool) (s : State) : Host.Outcome State Fault Refusal :=
  .next (endBusy s)

end Sys2Proof.Machine
end

