-- ==== Sys2Proof/Machine/Dispatch.lean ====
section
/-! DEFINITION. One arm for each instruction. -/

namespace Sys2Proof.Machine

def exec (i : Instr) (s : State) : Host.Outcome State Fault Refusal :=
  match i with
  | .tio => Sys2Proof.Machine.execTio s
  | .wr => Sys2Proof.Machine.execWr s
  | .rd => Sys2Proof.Machine.execRd s
  | .ctl mod => Sys2Proof.Machine.execCtl mod s
  | .sns => Sys2Proof.Machine.execSns s
  | .rdb => Sys2Proof.Machine.execRdb s
  | .rew => Sys2Proof.Machine.execRew s
  | .run => Sys2Proof.Machine.execRun s
  | .erg => Sys2Proof.Machine.execErg s
  | .wtm => Sys2Proof.Machine.execWtm s
  | .bsb => Sys2Proof.Machine.execBsb s
  | .bsf => Sys2Proof.Machine.execBsf s
  | .fsb => Sys2Proof.Machine.execFsb s
  | .fsf => Sys2Proof.Machine.execFsf s
  | .illegal c => Sys2Proof.Machine.execIllegal c s
  | .ereset sel hld adr cmd srv sup => Sys2Proof.Machine.execEreset sel hld adr cmd srv sup s
  | .ehalt hld cmd srv sup => Sys2Proof.Machine.execEhalt hld cmd srv sup s
  | .esel sup => Sys2Proof.Machine.execEsel sup s
  | .echain sup => Sys2Proof.Machine.execEchain sup s
  | .epoll sup => Sys2Proof.Machine.execEpoll sup s
  | .eabandon hld cmd srv sup => Sys2Proof.Machine.execEabandon hld cmd srv sup s
  | .eadrop sel hld cmd srv sup => Sys2Proof.Machine.execEadrop sel hld cmd srv sup s
  | .ecmd sel hld adr sup => Sys2Proof.Machine.execEcmd sel hld adr sup s
  | .ecmddrop sel hld adr srv sup => Sys2Proof.Machine.execEcmddrop sel hld adr srv sup s
  | .eaccept sel hld adr sup => Sys2Proof.Machine.execEaccept sel hld adr sup s
  | .estack sel hld adr sup => Sys2Proof.Machine.execEstack sel hld adr sup s
  | .estop sel hld adr sup => Sys2Proof.Machine.execEstop sel hld adr sup s
  | .eackdrop sel hld adr sup => Sys2Proof.Machine.execEackdrop sel hld adr sup s
  | .ebusyendSel0 hld adr cmd srv sup => Sys2Proof.Machine.execEbusyendSel0 hld adr cmd srv sup s
  | .ebusyendAdr0 sel hld cmd srv sup => Sys2Proof.Machine.execEbusyendAdr0 sel hld cmd srv sup s
  | .hold o => Sys2Proof.Machine.execHold o s

end Sys2Proof.Machine
end

