-- ==== Sys2Proof/Machine/Step.lean ====
section
/-! DEFINITION. One step: the controller whose turn it is takes one `step` of spec/40_selection_sequencer.md R112 and R113, and
the turn passes on (R110). NCTRL steps are one bus cycle. -/

namespace Sys2Proof.Machine

/-- One step. A configuration that R7 or R302 refuses has no machine. Stage 1 of R113 (the background tick) runs first,
then the one instruction that the lines and the context make (stages 2 to 6), then the turn passes on. -/
def step (s : State) : Host.Outcome State Fault Refusal :=
  if s.legal then
    match exec (tick s).current (tick s) with
    | .next t => .next (advance t)
    | .fault r => .fault r
    | .refused r => .refused r
  else .refused .illegalConfiguration

/-- A word of the opcode table put where the next step fetches it. -/
def State.withFetchWord (s : State) (nbits w : Nat) : State := placeWord s nbits w

end Sys2Proof.Machine
end

