-- ==== Sys2Proof/Machine/Script.lean ====
section
/-! DEFINITION. The channel scripts of spec/30_encoding.md R106 and R107: a cycle line, and the macros as a channel that holds
a line until an in-tag condition is seen at the end of a cycle. A script drives the machine from outside; no rule of the
machine uses it. -/

namespace Sys2Proof.Machine

/-- The lines of a cycle line (R106): the tags named are at 1. -/
def lineOf (o : OutTags) (w : BusWord) : CycleIn := ⟨o, w⟩

/-- The don't-care word of R106, `par(0x00)`. -/
def dontCare : BusWord := busWord 0x00

/-- A byte with bad parity, `b!` of R106. -/
def badWord (b : Byte) : BusWord := busWord b ^^^ 0x100

/-- No out-tag. -/
def noTags : OutTags := ⟨false, false, false, false, false, false, false⟩
/-- `OP` -/
def tagsOp : OutTags := { noTags with opr := true }
/-- `OP SEL HLD` -/
def tagsHeld : OutTags := { tagsOp with sel := true, hld := true }
/-- `OP SEL HLD ADR` -/
def tagsAddress : OutTags := { tagsHeld with adr := true }
/-- `OP SEL HLD CMD` -/
def tagsCommand : OutTags := { tagsHeld with cmd := true }
/-- `OP SEL HLD SRV` -/
def tagsService : OutTags := { tagsHeld with srv := true }
/-- `OP ADR` -/
def tagsHalt : OutTags := { tagsOp with adr := true }

/-- The macros of R107. A word argument carries its parity, so that `02!` can be written. -/
inductive Macro where
  | reset
  | idleCycles (n : Nat)
  | select (a : BusWord)
  | command (c : BusWord)
  | accept
  | acceptChain
  | acceptDrop
  | stack
  | stop
  | give (b : BusWord)
  | poll
  | await
  | halt
  | busyEnd
  deriving DecidableEq, Repr

/-- One bus cycle with a given line: every controller steps once (R110). -/
def runLine (l : CycleIn) (s : State) : Option State :=
  match Host.Core.run Sys2Proof.core s.nctrl (s.pushLine l) with
  | .next t => some t
  | .fault _ => none
  | .refused _ => none

/-- "hold X until Y" (R107): at least one cycle, at most `fuel` of them. -/
def holdUntil : Nat → CycleIn → (InTags → Bool) → State → Option State
  | 0, _, _, _ => none
  | fuel + 1, l, p, s =>
    match runLine l s with
    | some t => if p t.tagsIn then some t else holdUntil fuel l p t
    | none => none

/-- Several cycles with the same line. -/
def repeatLine (l : CycleIn) : Nat → State → Option State
  | 0, s => some s
  | n + 1, s => (runLine l s).bind (repeatLine l n)

/-- A response held until the in-tag it answers drops, then one line (the shape of ACCEPT, STOP, GIVE, STACK). -/
def respond (fuel : Nat) (held last : CycleIn) (s : State) : Option State :=
  (holdUntil fuel held (fun t => !t.sta && !t.srv) s).bind (runLine last)

/-- A macro run on the machine (R107); none when a held line never sees its condition within `fuel` cycles. -/
def Macro.exec (fuel : Nat) (s : State) : Macro → Option State
  | .reset => runLine (lineOf noTags dontCare) s
  | .idleCycles n => repeatLine (lineOf tagsOp dontCare) n s
  | .select a =>
    (holdUntil fuel (lineOf tagsAddress a) (fun t => t.opr || t.sta) s).bind fun t =>
      if t.tagsIn.opr then holdUntil fuel (lineOf tagsHeld dontCare) (fun t => t.adr) t else some t
  | .command c =>
    (holdUntil fuel (lineOf tagsCommand c) (fun t => !t.adr) s).bind
      (holdUntil fuel (lineOf tagsHeld dontCare) fun t => t.sta)
  | .accept => respond fuel (lineOf tagsService dontCare) (lineOf tagsHeld dontCare) s
  | .acceptChain =>
    respond fuel (lineOf { tagsService with sup := true } dontCare) (lineOf { tagsHeld with sup := true } dontCare) s
  | .acceptDrop => respond fuel (lineOf tagsService dontCare) (lineOf tagsOp dontCare) s
  | .stack =>
    respond fuel (lineOf { tagsCommand with sup := true } dontCare) (lineOf { tagsOp with sup := true } dontCare) s
  | .stop => respond fuel (lineOf tagsCommand dontCare) (lineOf tagsHeld dontCare) s
  | .give b => respond fuel (lineOf tagsService b) (lineOf tagsHeld dontCare) s
  | .poll =>
    (holdUntil fuel (lineOf tagsHeld dontCare) (fun t => t.adr) s).bind fun t =>
      respondAddress t
  | .await =>
    if s.tagsIn.srv || s.tagsIn.sta then some s
    else holdUntil fuel (lineOf tagsHeld dontCare) (fun t => t.srv || t.sta) s
  | .halt => (runLine (lineOf tagsHalt dontCare) s).bind (runLine (lineOf tagsOp dontCare))
  | .busyEnd => runLine (lineOf tagsOp dontCare) s
where
  /-- POLL after Address-In: Command-Out held until it drops, then one line. -/
  respondAddress (t : State) : Option State :=
    (holdUntil fuel (lineOf tagsCommand dontCare) (fun t => !t.adr) t).bind (runLine (lineOf tagsHeld dontCare))

/-- A script: macros one after another. -/
def runScript (fuel : Nat) : List Macro → State → Option State
  | [], s => some s
  | m :: ms, s => (m.exec fuel s).bind (runScript fuel ms)

end Sys2Proof.Machine
end

