-- ==== Sys2Proof/WellFormed.lean ====
section
/-! DEFINITION. Which instructions are well formed: the operand values that the encoding gives to that instruction and not
to another one (spec/30_encoding.md R82, R95, R104), and which context qualifies a tag event (the last column of R95 with
the priority of R113). -/

namespace Sys2Proof

/-- An instruction is well formed when its operands are values that its own row has. Four rows overlap others: ILLEGAL is
a byte no other CMD row matches (R84); EADROP is not EABANDON, which is tested first (R104); the second variant of
EBUSYEND is counted only where the first does not hold; HOLD is not ERESET (R96). -/
def wellFormed : Instr → Bool
  | .tio => true
  | .wr => true
  | .rd => true
  | .ctl _ => true
  | .sns => true
  | .rdb => true
  | .rew => true
  | .run => true
  | .erg => true
  | .wtm => true
  | .bsb => true
  | .bsf => true
  | .fsb => true
  | .fsf => true
  | .illegal c => !legal c
  | .ereset _ _ _ _ _ _ => true
  | .ehalt _ _ _ _ => true
  | .esel _ => true
  | .echain _ => true
  | .epoll _ => true
  | .eabandon _ _ _ _ => true
  | .eadrop sel _ _ _ _ => sel
  | .ecmd _ _ _ _ => true
  | .ecmddrop _ _ _ _ _ => true
  | .eaccept _ _ _ _ => true
  | .estack _ _ _ _ => true
  | .estop _ _ _ _ => true
  | .eackdrop _ _ _ _ => true
  | .ebusyendSel0 _ _ _ _ _ => true
  | .ebusyendAdr0 sel _ _ _ _ => sel
  | .hold o => o.opr

/-- Stage 3 of R113 comes before an event with these Select-Out and Address-Out levels. -/
def Qual.haltFirst (q : Qual) (sel adr : Bool) : Bool := q.selected && adr && !sel

/-- The context that qualifies an event (R95), with no earlier stage of R113 taking the cycle. A command needs no
qualifier: it is not read from the out-tags. -/
def qualifies (q : Qual) : Instr → Bool
  | .tio => true
  | .wr => true
  | .rd => true
  | .ctl _ => true
  | .sns => true
  | .rdb => true
  | .rew => true
  | .run => true
  | .erg => true
  | .wtm => true
  | .bsb => true
  | .bsf => true
  | .fsb => true
  | .fsf => true
  | .illegal _ => true
  | .ereset _ _ _ _ _ _ => true
  | .ehalt _ _ _ _ => q.selected
  | .esel _ => !q.selected && (q.phase == .pNone || q.phase == .pReq) && q.busFree && q.addressed
  | .echain _ => q.phase == .pNone && q.selected && q.chained
  | .epoll sup => q.phase == .pReq && q.busFree && !(q.statusReq && sup)
  | .eabandon _ _ _ _ => q.phase == .pAddrWait
  | .eadrop _ _ _ _ _ => q.phase == .pAddrWait
  | .ecmd sel _ adr _ => q.phase == .pAddrIn && !q.haltFirst sel adr
  | .ecmddrop sel _ adr _ _ => q.phase == .pCmdWait && !q.haltFirst sel adr
  | .eaccept sel _ adr _ => (q.phase == .pStatus || q.phase == .pService) && !q.haltFirst sel adr
  | .estack sel _ adr _ => q.phase == .pStatus && !q.haltFirst sel adr
  | .estop sel _ adr _ => q.phase == .pService && !q.haltFirst sel adr
  | .eackdrop sel _ adr _ => (q.phase == .pStatusAck || q.phase == .pServiceAck) && !q.haltFirst sel adr
  | .ebusyendSel0 _ adr _ _ _ => q.phase == .pBusy && !q.haltFirst false adr
  | .ebusyendAdr0 _ _ _ _ _ => q.phase == .pBusy
  | .hold o => decodeTags q o == .hold o

end Sys2Proof
end

