-- ==== Sys2Proof/Safety.lean ====
section
/-! DEFINITION. What claims say of a safe run: where a command acts, the invariants of spec/10_state.md R43 and R44 and of
spec/40_selection_sequencer.md R119, the bits no rule sets (R88, R90), and the channel's obligations of
spec/70_reset_and_hazards.md R352. -/

namespace Sys2Proof.Machine

/-! ## Where a command acts -/

/-- The command byte is on bus-out: state SELECT, phase P_ADDR_IN, ECMD (R128, R170). -/
abbrev AtCapture (s : State) : Prop :=
  s.ctx.state = .select ∧ s.ctx.phase = .pAddrIn ∧ s.out.isCommandOut = true

/-- The acknowledge of the initial status is over (R187). -/
abbrev AtBranch (s : State) : Prop :=
  s.ctx.state = .initStatus ∧ s.ctx.phase = .pStatusAck ∧ s.out.isAckDrop = true

/-- A device step is due: state OPERATE, the delay has run out (R200). -/
abbrev AtDeviceStep (s : State) : Prop :=
  s.ctx.state = .operate ∧ s.ctx.phase = .pNone ∧ s.ctx.delayCounter = 0

/-- The state after a capture that left `c` (R128, R170): the transfer registers cleared, the conditions sampled. -/
def captured (s : State) (c : Ctx) : State :=
  s.useCond.setCtx
    { c with
      dataReady := false
      dataEnd := false
      senseIndex := 0
      delayCounter := 0
      state := .command
      phase := .pCmdWait }

/-- The context after a rejection at capture with a sense flag (R179). -/
def rejected (s : State) (mask : Byte) : Ctx :=
  { senseSet s.ctx.currentUnit mask s.ctx with status := 0x0E, currentCommand := 0x00, commandDone := true }

/-- The context when the work of a command begins (R190, R192): the bus is kept only with `stay`. -/
def working (s : State) : Ctx :=
  { s.ctx with status := 0x00, phase := .pNone, selected := s.ctx.selected && s.out.stay }

/-- The context of a device step (R118, R200): the bus is kept only with `stay`. -/
def stepping (s : State) : Ctx := { s.ctx with selected := s.ctx.selected && s.out.stay }

/-- The command acts where no earlier row of the table of R170 takes it: no device-end is owed, the byte has good parity,
and no sense is pending for the sub-unit (rows 1, 2 and 4). -/
abbrev Unobstructed (s : State) : Prop :=
  hasBit s.ctx.readyFlags s.ctx.currentUnit = false ∧ parityOK s.busOut = true ∧
    hasBit s.ctx.pendingUnit s.ctx.currentUnit = false

/-- The status that has been accepted concludes the operation: END, or an operation concluded at initial status, in the
acknowledge phase (R274, R189). -/
abbrev AtConclusion (s : State) : Prop :=
  s.ctx.phase = .pStatusAck ∧ (s.ctx.state = .ending ∨ (s.ctx.state = .initStatus ∧ s.ctx.commandDone = true))

/-- The states and phases from which a selection can be taken: at rest, unselected, no handshake (R121). -/
abbrev AtRest (s : State) : Prop :=
  s.ctx.selected = false ∧ (s.ctx.phase = .pNone ∨ s.ctx.phase = .pReq) ∧
    (s.ctx.state = .idle ∨ s.ctx.state = .wait ∨ s.ctx.state = .ready)

/-- The context that goes to rest with some of its registers already written (R279). -/
def restingCtx (c : Ctx) : Ctx :=
  { c with state := if c.readyFlags ≠ 0 then .ready else if c.busyFlags ≠ 0 then .wait else .idle }

/-- The context as the end-accepted rule R274 leaves it, written out: the sense of a completed SNS (R275), the rewind that
an accepted REW or RUN starts (R276), the cleared registers, and chained WAIT or rest (R274 step 4). -/
def concludedCtx (dBg : Nat) (stay : Bool) (c : Ctx) : Ctx :=
  let clears := c.currentCommand = 0x04 ∧ c.pendingUnit = bit c.currentUnit
  let rewinds := c.currentCommand = 0x07 ∨ c.currentCommand = 0x0F
  let chains := c.chaining && c.selected && stay
  let busy := if rewinds then c.busyFlags ||| bit c.currentUnit else c.busyFlags
  { c with
    senseBytes := if clears then c.senseBytes.map fun _ => 0x00 else c.senseBytes
    pendingUnit := if clears then 0 else c.pendingUnit
    bgCounter := if rewinds ∧ c.busyFlags = 0 then dBg else c.bgCounter
    busyFlags := busy
    rewindFlags := if rewinds then c.rewindFlags ||| bit c.currentUnit else c.rewindFlags
    status := 0x00
    currentCommand := 0x00
    phase := .pNone
    selected := chains
    chaining := chains
    state := if chains then .wait else if c.readyFlags ≠ 0 then .ready else if busy ≠ 0 then .wait else .idle }

/-- What one instruction leaves as it was, whatever it is: the parameters, the other controllers, the registry entry and
the address of this one, the channel's lines, the bus cycle; what it takes from the environment it takes from the front of
what is listed, counts up and records (R20, R21, R64, R112). -/
structure OnlyCurrent (s t : State) : Prop where
  params : t.params = s.params
  before : t.before = s.before
  after : t.after = s.after
  entry : t.cur.entry = s.cur.entry
  address : t.ctx.address = s.ctx.address
  lines : t.env.lines = s.env.lines
  cycle : t.env.cycle = s.env.cycle
  answers : t.env.answers <:+ s.env.answers
  conds : t.env.conds <:+ s.env.conds
  lates : t.env.lates <:+ s.env.lates
  drawn : s.env.drawn ≤ t.env.drawn
  calls : s.env.calls <:+ t.env.calls

/-! ## Invariants -/

/-- At most one controller of the bus is selected (R43 (a), R119). -/
def Exclusive (s : State) : Prop := (s.controllers.filter fun k => k.ctx.selected).length ≤ 1

/-- The commands with work pending (R183). -/
def isWorkCommand (c : Byte) : Bool :=
  c == 0x01 || c == 0x02 || c == 0x04 || c == 0x0C || c == 0x17 || c == 0x1F || c == 0x27 || c == 0x2F || c == 0x37 ||
    c == 0x3F

/-- The phases in which a state can be found (R114, R120, R126 to R137, R184 to R187, R200, R213, R218, R229, R256 to
R263, R271, R283 to R286). -/
def phaseFits : CState → Phase → Bool
  | .idle, p => p == .pNone || p == .pBusy
  | .select, p => p == .pAddrWait || p == .pAddrIn
  | .command, p => p == .pCmdWait || p == .pStatus
  | .initStatus, p => p == .pStatusAck
  | .operate, p => p == .pNone || p == .pBusy
  | .request, p => p == .pNone || p == .pReq || p == .pAddrIn || p == .pCmdWait || p == .pBusy
  | .dataIn, p => p == .pService || p == .pServiceAck
  | .dataOut, p => p == .pService || p == .pServiceAck
  | .dataEnd, p => p == .pNone || p == .pReq || p == .pAddrIn || p == .pCmdWait || p == .pBusy
  | .ending, p => p == .pStatus || p == .pStatusAck
  | .stack, p =>
    p == .pNone || p == .pReq || p == .pAddrIn || p == .pCmdWait || p == .pStatusAck || p == .pBusy
  | .wait, p => p == .pNone || p == .pBusy
  | .ready, p =>
    p == .pNone || p == .pReq || p == .pAddrIn || p == .pCmdWait || p == .pStatus || p == .pStatusAck || p == .pBusy

/-- The phases of a handshake that the controller holds the bus for (R44 (i), and P_STATUS and P_STATUS_ACK). -/
def holdsBus (p : Phase) : Bool :=
  p == .pAddrWait || p == .pAddrIn || p == .pCmdWait || p == .pStatus || p == .pStatusAck || p == .pService ||
    p == .pServiceAck

/-- No bit of a mask lies at or above `n`. -/
abbrev maskFits (n : Nat) (m : UnitMask) : Prop := m.toNat < 2 ^ n

/-- The states between command capture and DATA_END. -/
def inOperation (st : CState) : Bool :=
  st == .command || st == .initStatus || st == .operate || st == .request || st == .dataIn || st == .dataOut

/-- The invariants of one context: R43 (b) and (d), R44 (e) to (k), the widths and ranges of R20 to R51, and what makes
them hold from step to step (which phases a state has, when the bus is held, what the current sub-unit's flags are while
an operation is in progress). -/
structure CtxInv (p : Params) (k : Controller) : Prop where
  /-- R21, R300 -/
  address : k.ctx.address = k.entry.base
  /-- R43 (b) -/
  readyOrEnd : ¬(k.ctx.dataReady = true ∧ k.ctx.dataEnd = true)
  /-- R32, R43 (d) -/
  senseLength : k.ctx.senseBytes.length = p.nsense
  senseCursor : k.ctx.senseIndex ≤ p.nsense
  /-- R44 (e), R37 -/
  rewindBusy : k.ctx.rewindFlags &&& ~~~k.ctx.busyFlags = 0
  /-- R44 (f) -/
  busyNotReady : k.ctx.busyFlags &&& k.ctx.readyFlags = 0
  /-- R44 (g), R34 -/
  pendingIsStatusUnit : k.ctx.pendingUnit = 0 ∨ k.ctx.pendingUnit = bit k.ctx.statusUnit
  /-- R44 (h) -/
  noPendingNoSense : k.ctx.pendingUnit = 0 → ∀ b ∈ k.ctx.senseBytes, b = 0
  /-- R38, R39 -/
  currentUnitFits : k.ctx.currentUnit < k.entry.nunits
  statusUnitFits : k.ctx.statusUnit < k.entry.nunits
  /-- R34 to R37 -/
  pendingFits : maskFits k.entry.nunits k.ctx.pendingUnit
  readyFits : maskFits k.entry.nunits k.ctx.readyFlags
  busyFits : maskFits k.entry.nunits k.ctx.busyFlags
  /-- R114 -/
  phase : phaseFits k.ctx.state k.ctx.phase = true
  /-- R44 (i) -/
  bus : holdsBus k.ctx.phase = true → k.ctx.selected = true
  free : k.ctx.phase = .pReq ∨ k.ctx.phase = .pBusy → k.ctx.selected = false
  /-- R44 (k), R256, R229, R283: in these states the bus is held only for a handshake -/
  atRest : (k.ctx.state = .idle ∨ k.ctx.state = .request ∨ k.ctx.state = .dataEnd ∨ k.ctx.state = .stack ∨
      k.ctx.state = .ready) → k.ctx.phase = .pNone → k.ctx.selected = false
  /-- R286 -/
  chainedWait : k.ctx.state = .wait → k.ctx.selected = true → k.ctx.chaining = true
  /-- R256: READY requests the bus only for a device-end that is owed -/
  readyOwes : k.ctx.state = .ready → k.ctx.phase = .pReq → k.ctx.readyFlags ≠ 0
  /-- R201: the commands found at work -/
  work : (k.ctx.state = .operate ∨ k.ctx.state = .request ∨ k.ctx.state = .dataIn ∨ k.ctx.state = .dataOut ∨
      k.ctx.state = .dataEnd ∨
      ((k.ctx.state = .command ∨ k.ctx.state = .initStatus) ∧ k.ctx.commandDone = false)) →
    isWorkCommand k.ctx.currentCommand = true
  /-- R218, R213 -/
  dataInWr : k.ctx.state = .dataIn → k.ctx.currentCommand = 0x01
  /-- R30: the data phase is open -/
  dataOpen : (k.ctx.state = .command ∨ k.ctx.state = .initStatus ∨ k.ctx.state = .operate ∨ k.ctx.state = .request ∨
      k.ctx.phase = .pService) → k.ctx.dataEnd = false
  /-- R29, R218: no byte is held -/
  noByte : (k.ctx.state = .command ∨ k.ctx.state = .initStatus ∨
      (k.ctx.state = .dataIn ∧ k.ctx.phase = .pService)) → k.ctx.dataReady = false
  /-- R183, R190: a command with work has no status yet -/
  noStatusYet : (k.ctx.state = .command ∨ k.ctx.state = .initStatus) → k.ctx.commandDone = false → k.ctx.status = 0x00
  /-- R121, R172: a sub-unit is not busy while it is selected or its command runs -/
  currentNotBusy : (k.ctx.state = .select ∨ inOperation k.ctx.state = true) →
    hasBit k.ctx.busyFlags k.ctx.currentUnit = false
  /-- R172: only a command that is not executed finds a device-end owed -/
  currentNotReady : inOperation k.ctx.state = true → k.ctx.currentCommand ≠ 0x00 →
    hasBit k.ctx.readyFlags k.ctx.currentUnit = false
  /-- R276: until its status is accepted, a rewind has not begun -/
  rewindNotBegun : (k.ctx.state = .ending ∨ k.ctx.state = .stack) →
    (k.ctx.currentCommand = 0x07 ∨ k.ctx.currentCommand = 0x0F) →
    hasBit k.ctx.busyFlags k.ctx.currentUnit = false ∧ hasBit k.ctx.readyFlags k.ctx.currentUnit = false

/-- Every controller of the bus meets its invariants. -/
def Inv (s : State) : Prop := ∀ k ∈ s.controllers, CtxInv s.params k

/-- The bits that no rule sets: ATTN, SM and CUE of the status (R88), DATA_CHECK, DCC and the unused bit of sense byte 0
(R90), and every bit of the later sense bytes (R32). -/
def UnusedBitsClear (c : Ctx) : Prop :=
  c.status &&& (ATTN ||| SM ||| CUE) = 0 ∧
    c.senseBytes.headD 0 &&& (DATA_CHECK ||| DCC ||| 0x01) = 0 ∧
    ∀ b ∈ c.senseBytes.tail, b = 0

/-! ## The channel (R352)

The obligations bind the channel, not the controllers: no rule of the machine assumes them. `s` is the machine at the
start of a bus cycle, so `s.tagsIn` is what the channel saw at the end of the cycle before; `prev` is the line it drove in
that cycle, `before` the in-tags at the start of it, and `l` the line it drives now. Obligation (5) gives the channel a
choice and binds nothing; that a poll is a level is the decoder's (`OutTags.isPoll`). DEDUCED readings, log entry 9. -/

/-- A controller keeps the bus for a chained re-address (R286). -/
def awaitsChain (s : State) : Bool :=
  s.controllers.any fun k => k.ctx.selected && k.ctx.state == .wait && k.ctx.chaining

/-- Command-Out of this cycle gives a command byte: it answers Address-In after an addressed selection (R128), or is still
held up after that answer (R184). -/
def takesCommand (s : State) : Bool :=
  s.controllers.any fun k =>
    (k.ctx.state == .select && k.ctx.phase == .pAddrIn) || (k.ctx.state == .command && k.ctx.phase == .pCmdWait)

/-- Service-Out of this cycle gives a byte of a WR: it answers Service-In in DATA_IN (R219), or is still held up after that
answer (R221). -/
def takesByte (s : State) : Bool :=
  s.controllers.any fun k => k.ctx.state == .dataIn && (k.ctx.phase == .pService || k.ctx.phase == .pServiceAck)

/-- (1) An addressed selection begins, Address-Out and Select-Out coming to be up together, only when no in-tag but
Request-In is up; a chained re-address (R288) begins with Operational-In up in chained WAIT. -/
def keepsSelection (prev : CycleIn) (s : State) (l : CycleIn) : Bool :=
  !(l.out.adr && l.out.sel && !(prev.out.adr && prev.out.sel)) ||
    ((!s.tagsIn.opr || awaitsChain s) && !s.tagsIn.adr && !s.tagsIn.sta && !s.tagsIn.srv)

/-- (2) While a controller has the bus, a response is held until the in-tag it answers has dropped, and an in-tag that
comes up finds no response up. -/
def keepsInterlock (before : InTags) (prev : CycleIn) (s : State) (l : CycleIn) : Bool :=
  !s.tagsIn.opr ||
    ((!(prev.out.cmd && (s.tagsIn.adr || s.tagsIn.sta || s.tagsIn.srv)) || l.out.cmd) &&
      (!(prev.out.srv && (s.tagsIn.sta || s.tagsIn.srv)) || l.out.srv) &&
      (!(s.tagsIn.adr && !before.adr || s.tagsIn.sta && !before.sta || s.tagsIn.srv && !before.srv) ||
        !prev.out.cmd && !prev.out.srv))

/-- (4) Bus-out has good parity, and stays as it is from cycle to cycle, while Address-Out, Command-Out with a command
byte, or Service-Out with a byte of a WR is up. A proceed, a stop, a stack and the acceptance of a status or of a byte
from the device carry nothing on bus-out. -/
def keepsBusOut (prev : CycleIn) (s : State) (l : CycleIn) : Bool :=
  (!l.out.adr || valid prev.out.adr) && (!(l.out.cmd && takesCommand s) || valid prev.out.cmd) &&
    (!(l.out.srv && takesByte s) || valid prev.out.srv)
where
  /-- Good parity, and the word of the cycle before if the tag was up in it. -/
  valid (wasUp : Bool) : Bool := parityOK l.busOut && (!wasUp || l.busOut == prev.busOut)

/-- The obligations (1) to (4) and (6) in one cycle: (3) Command-Out and Service-Out are never up together; (6) the halt
pattern is used only while some controller is selected. -/
def channelKeeps (before : InTags) (prev : CycleIn) (s : State) (l : CycleIn) : Bool :=
  keepsSelection prev s l && keepsInterlock before prev s l && !(l.out.cmd && l.out.srv) && keepsBusOut prev s l &&
    (!l.out.isHalt || s.tagsIn.opr)

/-- The obligations over consecutive bus cycles of a channel that drives the lines given. -/
def scriptKeeps : InTags → CycleIn → List CycleIn → State → Bool
  | _, _, [], _ => true
  | before, prev, l :: ls, s =>
    channelKeeps before prev s l &&
      match runLine l s with
      | some t => scriptKeeps s.tagsIn l ls t
      | none => false

end Sys2Proof.Machine
end

