-- ==== Sys2Proof/Certificates/Slice0/Obligations.lean ====
section
/-! DEFINITION. The statements for the provers, one definition each. They follow the rules of spec/: the encoding, the
state at attach, the step, the capture of a command, the work of each command, the ending of an operation, each tag
event, the background tick, the scanner and the invariants. Where a statement gives an instruction's next state it
gives the whole of it, so that it says its frame as well: `s.setCtx c` is `s` with another context for the controller
whose turn it is, and every register that an update does not name is unchanged. What a next state says of the environment's
field (`useCond`, `useLate`, `noteCall`, `env`) is in the terms of the model's own bookkeeping (log entries 2 and 12): which
inputs an instruction takes and which codec calls it makes. -/

open Sys2Proof Sys2Proof.Machine

/-! ## Encoding -/

/-- R82 to R84, R95, R104: every well-formed instruction, in a context that qualifies it, is what the decoder reads from
its own word. -/
def Obligations.DecodeOfEncode : Prop :=
  ∀ (q : Qual) (i : Instr), wellFormed i = true → qualifies q i = true → decode q (encode i) = i

/-- R84, R85, R95, R104, R105: every word in every context is read as one instruction, which is well formed, is qualified by
that context, and has that word as its own. -/
def Obligations.EncodeOfDecode : Prop :=
  ∀ (q : Qual) (w : Word),
    wellFormed (decode q w) = true ∧ qualifies q (decode q w) = true ∧ encode (decode q w) = w

/-- R84: the complete command map, on all 256 bytes. -/
def Obligations.CommandMap : Prop :=
  instrOfByte 0x00 = .tio ∧ instrOfByte 0x01 = .wr ∧ instrOfByte 0x02 = .rd ∧
    (∀ c : Byte, c &&& 0x07 = 0x03 → instrOfByte c = .ctl (BitVec.ofNat 5 (c.toNat / 8))) ∧
    instrOfByte 0x04 = .sns ∧ instrOfByte 0x0C = .rdb ∧ instrOfByte 0x07 = .rew ∧ instrOfByte 0x0F = .run ∧
    instrOfByte 0x17 = .erg ∧ instrOfByte 0x1F = .wtm ∧ instrOfByte 0x27 = .bsb ∧ instrOfByte 0x2F = .bsf ∧
    instrOfByte 0x37 = .fsb ∧ instrOfByte 0x3F = .fsf ∧
    ∀ c : Byte, c &&& 0x07 ≠ 0x03 →
      c ∉ [0x00, 0x01, 0x02, 0x04, 0x0C, 0x07, 0x0F, 0x17, 0x1F, 0x27, 0x2F, 0x37, 0x3F] → instrOfByte c = .illegal c

/-- R93, R95: words written out from the tables decode to the instruction they stand for, each in a context that qualifies
it. -/
def Obligations.TagWordsDecode : Prop :=
  decode ⟨.pNone, false, false, true, true, false⟩ (.tags 0b0001111) = .esel false ∧
    decode ⟨.pNone, true, true, true, false, false⟩ (.tags 0b1001111) = .echain true ∧
    decode ⟨.pReq, false, false, true, false, true⟩ (.tags 0b0000111) = .epoll false ∧
    decode ⟨.pAddrIn, true, false, true, false, false⟩ (.tags 0b0010111) = .ecmd true true false false ∧
    decode ⟨.pStatus, true, false, true, false, false⟩ (.tags 0b1010111) = .estack true true false true ∧
    decode ⟨.pService, true, false, true, false, false⟩ (.tags 0b0010111) = .estop true true false false ∧
    decode ⟨.pService, true, false, true, false, false⟩ (.tags 0b0001001) = .ehalt false false false false ∧
    decode ⟨.pBusy, false, false, true, false, false⟩ (.tags 0b0000000) =
      .ereset false false false false false false

/-! ## Attach, configuration, the step -/

/-- R49, R340: at attach every register of every controller has the value of the "at attach" column, and no line is
driven. -/
def Obligations.AttachValues : Prop :=
  ∀ (p : Params) (e : RegEntry) (es : List RegEntry),
    (State.attached p e es).registry = e :: es ∧
    (State.attached p e es).tagsIn = ⟨false, false, false, false, false⟩ ∧
    (State.attached p e es).busIn = 0x000 ∧
    ∀ k ∈ (State.attached p e es).controllers,
      k.ctx =
        { address := k.entry.base, state := .idle, phase := .pNone, selected := false, currentCommand := 0x00,
          commandDone := true, chaining := false, dataByte := 0x00, dataReady := false, dataEnd := false,
          status := 0x00, senseBytes := List.replicate p.nsense 0x00, senseIndex := 0, pendingUnit := 0,
          readyFlags := 0, busyFlags := 0, rewindFlags := 0, currentUnit := 0, statusUnit := 0, delayCounter := 0,
          bgCounter := 0, recOpen := false }

/-- R302: a registry with overlapping ranges, with a range passing 0xFF or with NUNITS of 0 is refused when it is built. -/
def Obligations.BadRegistryRefused : Prop :=
  ∀ (p : Params) (reg : List RegEntry),
    ((∃ e ∈ reg, e.nunits = 0 ∨ 256 < e.base.toNat + e.nunits) ∨
      ¬reg.Pairwise fun e k =>
        ∀ a : Byte, ¬((e.base.toNat ≤ a.toNat ∧ a.toNat < e.base.toNat + e.nunits) ∧
          (k.base.toNat ≤ a.toNat ∧ a.toNat < k.base.toNat + k.nunits))) →
    State.attach p reg = .error .illegalConfiguration

/-- R7, R352: every state of a legal configuration has a next state, and a state of an illegal one has none. The spec has
the illegal configuration refused when the machine is built; that `step` refuses it too is the model's (log entry 8). -/
def Obligations.StepTotal : Prop :=
  ∀ s : State, (s.legal = true → ∃ t, step s = .next t) ∧ (s.legal = false → step s = .refused .illegalConfiguration)

/-- R112, R113: the instruction that the fetched word decodes to is the one that runs, on the state that the background tick
left, and the turn passes on. That a step is one controller's step of the bus cycle is the model's reading (log entry 1). -/
def Obligations.StepRunsDecoded : Prop :=
  ∀ (s : State) (i : Instr), s.legal = true → wellFormed i = true →
    decode (tick s).qual (tick s).fetch = i →
    ∃ t, exec i (tick s) = .next t ∧ step s = .next (advance t)

/-- R113, R96, R99, R124: the stages of a step, in their order. -/
def Obligations.StageOrder : Prop :=
  ∀ s : State,
    (s.out.opr = false →
      s.current = .ereset s.out.sel s.out.hld s.out.adr s.out.cmd s.out.srv s.out.sup) ∧
    (s.out.opr = true → s.ctx.selected = true → s.out.adr = true → s.out.sel = false →
      s.current = .ehalt s.out.hld s.out.cmd s.out.srv s.out.sup) ∧
    (s.out.opr = true → s.ctx.selected = false → s.ctx.phase = .pBusy →
      s.current =
        if s.out.sel = false then .ebusyendSel0 s.out.hld s.out.adr s.out.cmd s.out.srv s.out.sup
        else if s.out.adr = false then .ebusyendAdr0 s.out.sel s.out.hld s.out.cmd s.out.srv s.out.sup
        else .hold s.out) ∧
    (∀ u, s.ctx.selected = false → (s.ctx.phase = .pNone ∨ s.ctx.phase = .pReq) → s.busFree = true →
      parityOK s.busOut = true → scan s.registry (busByte s.busOut) = some (s.index, u) →
      s.out.opr = true → s.out.sel = true → s.out.hld = true → s.out.adr = true → s.out.cmd = false →
      s.out.srv = false → s.current = .esel s.out.sup)

/-- R110, R300: a step passes the turn to the next controller in registry order and changes neither the registry nor the
parameters; after the last controller the next bus cycle begins. -/
def Obligations.StepKeepsRegistry : Prop :=
  ∀ s t : State, step s = .next t →
    t.registry = s.registry ∧ t.params = s.params ∧
    (s.after ≠ [] → t.index = s.index + 1 ∧ t.env.cycle = s.env.cycle ∧ t.env.lines = s.env.lines) ∧
    (s.after = [] → t.index = 0 ∧ t.env.cycle = s.env.cycle + 1 ∧ t.env.lines = s.env.lines.tail)

/-- R110: as many steps as there are controllers are one bus cycle. -/
def Obligations.BusCycle : Prop :=
  ∀ s : State, s.legal = true → s.before = [] →
    ∃ t : State, Host.Core.run Sys2Proof.core s.nctrl s = .next t ∧
      t.before = [] ∧ t.registry = s.registry ∧ t.params = s.params ∧
      t.env.cycle = s.env.cycle + 1 ∧ t.env.lines = s.env.lines.tail

/-! ## Invariants of every step -/

/-- R340, R49: where a machine of any legal configuration starts, with any number of controllers, the invariants hold, at
most one controller is selected and the unused bits are clear; State.reset is such a machine. -/
def Obligations.ResetInv : Prop :=
  (State.reset.legal = true ∧ State.reset = State.attached Params.default RegEntry.default []) ∧
    ∀ (p : Params) (e : RegEntry) (es : List RegEntry), (State.attached p e es).legal = true →
      Inv (State.attached p e es) ∧ Exclusive (State.attached p e es) ∧
        ∀ k ∈ (State.attached p e es).controllers, UnusedBitsClear k.ctx

/-- R43 (b) and (d), R44: every step keeps the invariants of every controller. -/
def Obligations.StepKeepsInv : Prop :=
  ∀ s t : State, Inv s → step s = .next t → Inv t

/-- R43 (a), R119: every step keeps at most one controller selected. -/
def Obligations.StepKeepsExclusive : Prop :=
  ∀ s t : State, Exclusive s → step s = .next t → Exclusive t

/-- R88, R90, R32: the status and sense bits that no rule sets stay clear. -/
def Obligations.StepKeepsUnusedBits : Prop :=
  ∀ s t : State, (∀ k ∈ s.controllers, UnusedBitsClear k.ctx) → step s = .next t →
    ∀ k ∈ t.controllers, UnusedBitsClear k.ctx

/-! ## Frames and whole-machine rules -/

/-- R20, R21, R64, R112: no instruction writes the context of another controller, the address, the registry, the parameters
or the channel's lines, and what it takes from the environment it takes from the front of what is listed, counts and
records (the model's own fields, log entry 2). -/
def Obligations.OnlyOwnContext : Prop :=
  ∀ (i : Instr) (s t : State), exec i s = .next t → OnlyCurrent s t

/-- R277, R43 (c): from command capture on, while an operation is in progress, no instruction clears a bit of `status`,
unless it concludes the operation or drops it, and then the whole byte and `currentCommand` are cleared. In COMMAND and
INIT_STATUS this is said of contexts that meet the invariants, which hold there that a command with work has no status yet
(R190) and that a device-end is owed only to a command that is not executed (R172). -/
def Obligations.StatusOnlyGrows : Prop :=
  ∀ (i : Instr) (s t : State), exec i s = .next t →
    (s.ctx.state ∈ [CState.operate, .request, .dataIn, .dataOut, .dataEnd, .ending, .stack] ∨
      (s.ctx.state ∈ [CState.command, .initStatus] ∧ CtxInv s.params s.cur)) →
    s.ctx.status &&& ~~~t.ctx.status = 0 ∨ (t.ctx.status = 0x00 ∧ t.ctx.currentCommand = 0x00)

/-- The model's completion of `exec` (log entry 6): the meaning of a tag event, run in a phase that does not qualify the
event (R95), changes nothing. The decoder never gives an event there, and no rule but R125 (ESEL) speaks of it: the
cycle with that pattern is another instruction (HOLD, or a command at work), whose own rule says what it does. -/
def Obligations.EventOutOfPhaseHolds : Prop :=
  ∀ s : State,
    (s.ctx.phase ≠ .pNone → s.ctx.phase ≠ .pReq → ∀ sup, exec (.esel sup) s = .next s) ∧
    (s.ctx.phase ≠ .pReq → ∀ sup, exec (.epoll sup) s = .next s) ∧
    (s.ctx.phase ≠ .pAddrWait → ∀ sel hld cmd srv sup,
      exec (.eabandon hld cmd srv sup) s = .next s ∧ exec (.eadrop sel hld cmd srv sup) s = .next s) ∧
    (s.ctx.phase ≠ .pAddrIn → ∀ sel hld adr sup, exec (.ecmd sel hld adr sup) s = .next s) ∧
    (s.ctx.phase ≠ .pCmdWait → ∀ sel hld adr srv sup, exec (.ecmddrop sel hld adr srv sup) s = .next s) ∧
    (s.ctx.phase ≠ .pStatus → s.ctx.phase ≠ .pService → ∀ sel hld adr sup,
      exec (.eaccept sel hld adr sup) s = .next s) ∧
    (s.ctx.phase ≠ .pStatus → ∀ sel hld adr sup, exec (.estack sel hld adr sup) s = .next s) ∧
    (s.ctx.phase ≠ .pService → ∀ sel hld adr sup, exec (.estop sel hld adr sup) s = .next s) ∧
    (s.ctx.phase ≠ .pStatusAck → s.ctx.phase ≠ .pServiceAck → ∀ sel hld adr sup,
      exec (.eackdrop sel hld adr sup) s = .next s) ∧
    (s.ctx.phase ≠ .pBusy → ∀ sel hld adr cmd srv sup,
      exec (.ebusyendSel0 hld adr cmd srv sup) s = .next s ∧ exec (.ebusyendAdr0 sel hld cmd srv sup) s = .next s)

/-! ## The pure functions -/

/-- R162, R94: `parity` is 1 for an even number of one-bits, `par` puts it above the byte, `parityOK` compares it, and a word
is good just when an odd number of its nine bits are one. -/
def Obligations.OddParity : Prop :=
  (∀ b : Byte,
    (parity b = true ↔ ((List.range 8).countP fun i => b.getLsbD i) % 2 = 0) ∧
    (busWord b).toNat = (parity b).toNat * 256 + b.toNat ∧
    busByte (busWord b) = b ∧ parityOK (busWord b) = true) ∧
  ∀ w : BusWord,
    (parityOK w = true ↔ w.getLsbD 8 = parity (busByte w)) ∧
    (parityOK w = true ↔ ((List.range 9).countP fun i => w.getLsbD i) % 2 = 1)

/-- R115: the outputs of a controller as a function of its context. -/
def Obligations.Outputs : Prop :=
  ∀ c : Ctx,
    drive c = ⟨c.selected, decide (c.phase = .pAddrIn), decide (c.phase = .pStatus ∨ c.phase = .pBusy),
      decide (c.phase = .pService), decide (c.phase = .pReq)⟩ ∧
    busDrive c =
      if c.phase = .pAddrIn then busWord (c.address + BitVec.ofNat 8 c.currentUnit)
      else if c.phase = .pStatus then busWord c.status
      else if c.phase = .pBusy then busWord 0x10
      else if c.phase = .pService ∧ c.state = .dataOut then busWord c.dataByte
      else 0x000

/-- R301: the scanner gives the controller whose range holds the address, and the distance from its base. -/
def Obligations.ScanFinds : Prop :=
  ∀ reg : List RegEntry, legalRegistry reg = true → ∀ (a : Byte) (i u : Nat),
    scan reg a = some (i, u) ↔
      ∃ e, reg[i]? = some e ∧ e.base.toNat ≤ a.toNat ∧ a.toNat < e.base.toNat + e.nunits ∧
        u = a.toNat - e.base.toNat

/-- R311: recording an error. -/
def Obligations.SenseSet : Prop :=
  ∀ (u : Nat) (mask b : Byte) (bs : List Byte) (c : Ctx), c.senseBytes = b :: bs →
    senseSet u mask c =
      { c with
        senseBytes :=
          if c.pendingUnit ≠ 0 ∧ c.statusUnit ≠ u then mask :: List.replicate bs.length 0x00 else (b ||| mask) :: bs
        statusUnit := u
        pendingUnit := bit u }

/-! ## Command capture -/

/-- R180, R181, R182: TIO, CTL, REW and RUN are accepted and concluded at initial status, with 0x00, CE+DE and CE. -/
def Obligations.ConcludedAtCapture : Prop :=
  ∀ s : State, AtCapture s → Unobstructed s →
    exec .tio s = .next (captured s { s.ctx with status := 0x00, currentCommand := 0x00, commandDone := true }) ∧
    (∀ m : BitVec 5, exec (.ctl m) s =
      .next (captured s
        { s.ctx with status := 0x0C, currentCommand := m ++ (3 : BitVec 3), commandDone := true })) ∧
    (s.nextCond.attached = true →
      exec .rew s = .next (captured s { s.ctx with status := 0x08, currentCommand := 0x07, commandDone := true }) ∧
      exec .run s = .next (captured s { s.ctx with status := 0x08, currentCommand := 0x0F, commandDone := true }))

/-- R183: the ten commands with work are accepted with initial status 0x00 and their work pending: SNS whatever the device
conditions and the pending sense, the others on an attached sub-unit, those that write on one that is not read-only, those
that move backward on one that is not at load point. -/
def Obligations.WorkAccepted : Prop :=
  ∀ s : State, AtCapture s → hasBit s.ctx.readyFlags s.ctx.currentUnit = false → parityOK s.busOut = true →
    (let accepts (i : Instr) (c : Byte) : Prop :=
      exec i s = .next (captured s { s.ctx with status := 0x00, currentCommand := c, commandDone := false })
    accepts .sns 0x04 ∧
    (hasBit s.ctx.pendingUnit s.ctx.currentUnit = false → s.nextCond.attached = true →
      accepts .rd 0x02 ∧ accepts .fsb 0x37 ∧ accepts .fsf 0x3F ∧
      (s.nextCond.readOnly = false → accepts .wr 0x01 ∧ accepts .erg 0x17 ∧ accepts .wtm 0x1F) ∧
      (s.nextCond.atLoadPoint = false → accepts .rdb 0x0C ∧ accepts .bsb 0x27 ∧ accepts .bsf 0x2F)))

/-- R171, R174, R179: a command byte of bad parity is rejected with bus-check, whatever command it would be, and a byte that is
no legal command is rejected with command-reject. -/
def Obligations.BadCommandByteRejected : Prop :=
  ∀ s : State, AtCapture s → hasBit s.ctx.readyFlags s.ctx.currentUnit = false →
    (parityOK s.busOut = false → ∀ (i : Instr) (c : Byte), byteOfInstr i = some c →
      exec i s = .next (captured s (rejected s BUS_CHECK))) ∧
    (parityOK s.busOut = true → ∀ c : Byte, legal c = false →
      exec (.illegal c) s = .next (captured s (rejected s CMD_REJECT)))

/-- R172: a device-end that the sub-unit owes is presented, and the command is not executed. -/
def Obligations.PendingDeviceEnd : Prop :=
  ∀ (s : State) (i : Instr) (c : Byte), byteOfInstr i = some c → wellFormed i = true → AtCapture s →
    hasBit s.ctx.readyFlags s.ctx.currentUnit = true →
    exec i s = .next (captured s
      { s.ctx with
        status := 0x04 ||| (if c = 0x00 ∧ parityOK s.busOut = true then 0x00 else 0x10) |||
          (if hasBit s.ctx.pendingUnit s.ctx.currentUnit = true then 0x02 else 0x00)
        currentCommand := 0x00
        commandDone := true })

/-- R175, R179: with sense pending for the sub-unit every legal command but SNS is rejected. -/
def Obligations.PendingSenseRejected : Prop :=
  ∀ (s : State) (i : Instr) (c : Byte), byteOfInstr i = some c → legal c = true → c ≠ 0x04 → AtCapture s →
    hasBit s.ctx.readyFlags s.ctx.currentUnit = false → parityOK s.busOut = true →
    hasBit s.ctx.pendingUnit s.ctx.currentUnit = true →
    exec i s = .next (captured s (rejected s CMD_REJECT))

/-- R176, R179: a sub-unit that is not attached rejects everything but TIO, the CONTROL class and SNS with intervention
required. -/
def Obligations.NotReadyRejected : Prop :=
  ∀ s : State, AtCapture s → Unobstructed s → s.nextCond.attached = false →
    ∀ i ∈ [Instr.wr, .rd, .rdb, .rew, .run, .erg, .wtm, .bsb, .bsf, .fsb, .fsf],
      exec i s = .next (captured s (rejected s INT_REQ))

/-- R177, R178, R179: writing on a read-only medium and backing up at load point are rejected with command-reject. -/
def Obligations.MediumRejected : Prop :=
  ∀ s : State, AtCapture s → Unobstructed s → s.nextCond.attached = true →
    (s.nextCond.readOnly = true →
      ∀ i ∈ [Instr.wr, .wtm, .erg], exec i s = .next (captured s (rejected s CMD_REJECT))) ∧
    (s.nextCond.atLoadPoint = true →
      ∀ i ∈ [Instr.rdb, .bsb, .bsf], exec i s = .next (captured s (rejected s CMD_REJECT)))

/-! ## The work of a command -/

/-- R190 to R192, WR: the start call, the open record, and the first byte asked for when the bus is kept. -/
def Obligations.WriteStarts : Prop :=
  ∀ s : State, AtBranch s → s.ctx.commandDone = false →
    (let opened (st : Byte) : Host.Outcome State Fault Refusal :=
      .next ((s.noteCall s.ctx.currentUnit .startWrite).setCtx
        { working s with
          status := st
          recOpen := true
          state := if s.ctx.selected && s.out.stay then .dataIn else .operate
          phase := if s.ctx.selected && s.out.stay then .pService else .pNone })
    (s.nextAnswer.result = .ok ∨ s.nextAnswer.result = .markHit → exec .wr s = opened 0x00) ∧
    (s.nextAnswer.result = .endOfMedium → exec .wr s = opened 0x01) ∧
    (s.nextAnswer.result = .error →
      exec .wr s = .next (enterDataEnd ((s.noteCall s.ctx.currentUnit .startWrite).setCtx
        { senseSet s.ctx.currentUnit EQUIP_CHECK (working s) with dataEnd := true, status := 0x0C }))))

/-- R190 to R192, RD and RDB: the start call in the command's direction, and what each answer gives. -/
def Obligations.ReadStarts : Prop :=
  ∀ s : State, AtBranch s → s.ctx.commandDone = false →
    ∀ p ∈ [(Instr.rd, CodecCall.startForwardRead, EQUIP_CHECK), (Instr.rdb, CodecCall.startBackwardRead, CMD_REJECT)],
      let t := s.noteCall s.ctx.currentUnit p.2.1
      (s.nextAnswer.result = .ok →
        exec p.1 s =
          .next (t.setCtx { working s with recOpen := true, delayCounter := s.params.dStart, state := .operate })) ∧
      (s.nextAnswer.result = .markHit →
        exec p.1 s = .next (enterDataEnd (t.setCtx { working s with dataEnd := true, status := 0x0D }))) ∧
      (s.nextAnswer.result = .endOfMedium →
        exec p.1 s = .next (enterDataEnd (t.setCtx
          { senseSet s.ctx.currentUnit p.2.2 (working s) with dataEnd := true, status := 0x0C }))) ∧
      (s.nextAnswer.result = .error →
        exec p.1 s = .next (enterDataEnd (t.setCtx
          { senseSet s.ctx.currentUnit EQUIP_CHECK (working s) with dataEnd := true, status := 0x0C })))

/-- R190 to R192, SNS and the six motion commands with work: OPERATE, for motion after the motion delay, and no codec
call yet. -/
def Obligations.SenseAndMotionStart : Prop :=
  ∀ s : State, AtBranch s → s.ctx.commandDone = false →
    exec .sns s = .next (s.setCtx { working s with state := .operate }) ∧
    ∀ i ∈ [Instr.erg, .wtm, .bsb, .bsf, .fsb, .fsf],
      exec i s = .next (s.setCtx { working s with delayCounter := s.params.dMotion, state := .operate })

/-- R200: a loaded delay postpones the device step; only the counter, and the bus without `stay`, change. -/
def Obligations.DelayCounts : Prop :=
  ∀ s : State, s.ctx.state = .operate → s.ctx.phase = .pNone → 0 < s.ctx.delayCounter →
    ∀ i ∈ [Instr.wr, .rd, .rdb, .sns, .erg, .wtm, .bsb, .bsf, .fsb, .fsf],
      exec i s = .next (s.setCtx { stepping s with delayCounter := s.ctx.delayCounter - 1 })

/-- R202 to R204, R211, R212: the device step of RD and RDB. -/
def Obligations.ReadStep : Prop :=
  ∀ s : State, AtDeviceStep s → ∀ i ∈ [Instr.rd, .rdb],
    let keeps := s.ctx.selected && s.out.stay
    let offer (c : Ctx) : Ctx :=
      { c with state := if keeps then .dataOut else .request, phase := if keeps then .pService else .pNone }
    let t := s.noteCall s.ctx.currentUnit .readFrame
    let fetched : Ctx := { stepping s with dataByte := s.nextAnswer.byte, dataReady := true }
    (s.ctx.dataReady = true → exec i s = .next (s.setCtx (offer (stepping s)))) ∧
    (s.ctx.dataReady = false →
      (s.nextAnswer.result = .ok →
        exec i s = .next (t.useLate.setCtx
          (offer (if t.nextLate = true then senseSet s.ctx.currentUnit OVERRUN fetched else fetched)))) ∧
      (s.nextAnswer.result = .markHit →
        exec i s = .next (enterDataEnd (t.setCtx
          { stepping s with dataEnd := true, status := s.ctx.status ||| 0x0C }))) ∧
      (s.nextAnswer.result = .endOfMedium ∨ s.nextAnswer.result = .error →
        exec i s = .next (enterDataEnd (t.setCtx
          { senseSet s.ctx.currentUnit EQUIP_CHECK (stepping s) with
            dataEnd := true, status := s.ctx.status ||| 0x0C }))))

/-- R205 to R207, R211, R212: the device step of WR. -/
def Obligations.WriteStep : Prop :=
  ∀ s : State, AtDeviceStep s →
    (let keeps := s.ctx.selected && s.out.stay
    let ask (c : Ctx) : Ctx :=
      { c with state := if keeps then .dataIn else .request, phase := if keeps then .pService else .pNone }
    let t := s.noteCall s.ctx.currentUnit (.writeFrame s.ctx.dataByte)
    let written : Ctx := { stepping s with dataReady := false }
    let drawn : Ctx := if t.nextLate = true then senseSet s.ctx.currentUnit OVERRUN written else written
    (s.ctx.dataReady = false → exec .wr s = .next (s.setCtx (ask (stepping s)))) ∧
    (s.ctx.dataReady = true →
      (s.nextAnswer.result = .ok ∨ s.nextAnswer.result = .markHit →
        exec .wr s = .next (t.useLate.setCtx (ask drawn))) ∧
      (s.nextAnswer.result = .endOfMedium →
        exec .wr s = .next (t.useLate.setCtx (ask { drawn with status := s.ctx.status ||| 0x01 }))) ∧
      (s.nextAnswer.result = .error →
        exec .wr s = .next (enterDataEnd (t.useLate.setCtx
          { senseSet s.ctx.currentUnit EQUIP_CHECK drawn with
            dataEnd := true, status := s.ctx.status ||| 0x0C })))))

/-- R208 to R211: the device step of SNS. -/
def Obligations.SenseStep : Prop :=
  ∀ s : State, AtDeviceStep s →
    (let keeps := s.ctx.selected && s.out.stay
    let offer (c : Ctx) : Ctx :=
      { c with state := if keeps then .dataOut else .request, phase := if keeps then .pService else .pNone }
    let stored : Byte :=
      if hasBit s.ctx.pendingUnit s.ctx.currentUnit then s.ctx.senseBytes.getD s.ctx.senseIndex 0x00 else 0x00
    (s.ctx.dataReady = true → exec .sns s = .next (s.setCtx (offer (stepping s)))) ∧
    (s.ctx.dataReady = false → s.ctx.senseIndex < s.params.nsense → s.ctx.senseIndex ≠ 1 →
      exec .sns s = .next (s.setCtx (offer
        { stepping s with dataByte := stored, senseIndex := s.ctx.senseIndex + 1, dataReady := true }))) ∧
    (s.ctx.dataReady = false → s.ctx.senseIndex < s.params.nsense → s.ctx.senseIndex = 1 →
      exec .sns s = .next (s.useCond.setCtx (offer
        { stepping s with
          dataByte := stored ||| detailByte s.params s.nextCond, senseIndex := 2, dataReady := true }))) ∧
    (s.ctx.dataReady = false → s.ctx.senseIndex = s.params.nsense →
      exec .sns s = .next (enterDataEnd (s.setCtx
        { stepping s with dataEnd := true, status := s.ctx.status ||| 0x0C }))))

/-- R243, R244: the device steps of ERG, which calls no codec, and of WTM. -/
def Obligations.EraseAndMarkStep : Prop :=
  ∀ s : State, AtDeviceStep s →
    exec .erg s = .next (enterDataEnd (s.setCtx { stepping s with status := s.ctx.status ||| 0x0C })) ∧
    (let t := s.noteCall s.ctx.currentUnit .writeMark
    (s.nextAnswer.result = .ok ∨ s.nextAnswer.result = .markHit →
      exec .wtm s = .next (enterDataEnd (t.setCtx { stepping s with status := s.ctx.status ||| 0x0C }))) ∧
    (s.nextAnswer.result = .endOfMedium →
      exec .wtm s = .next (enterDataEnd (t.setCtx { stepping s with status := s.ctx.status ||| 0x0D }))) ∧
    (s.nextAnswer.result = .error →
      exec .wtm s = .next (enterDataEnd (t.setCtx
        { senseSet s.ctx.currentUnit EQUIP_CHECK (stepping s) with status := s.ctx.status ||| 0x0C }))))

/-- R240: the helper `skip`, its answer and its calls. -/
def Obligations.Skip : Prop :=
  ∀ (s : State) (start : CodecCall),
    (let t := s.noteCall s.ctx.currentUnit start
    (s.nextAnswer.result = .ok →
      skipCalls start s = t.noteCall s.ctx.currentUnit .finishRecord ∧
      skipResult start s = if t.nextAnswer.result = .error then .error else .ok) ∧
    (s.nextAnswer.result ≠ .ok → skipCalls start s = t ∧ skipResult start s = s.nextAnswer.result))

/-- R245 to R248: the device steps of BSB and FSB, which pass one record, and of BSF and FSF, which go on to the next record
until a tape mark or an error. -/
def Obligations.SpacingStep : Prop :=
  ∀ s : State, AtDeviceStep s →
    ∀ p ∈ [(Instr.bsb, Instr.bsf, CodecCall.startBackwardRead, CMD_REJECT),
      (Instr.fsb, Instr.fsf, CodecCall.startForwardRead, EQUIP_CHECK)],
      let t := skipCalls p.2.2.1 s
      let ends (st : Byte) (c : Ctx) : Host.Outcome State Fault Refusal :=
        .next (enterDataEnd (t.setCtx { c with status := s.ctx.status ||| st }))
      (skipResult p.2.2.1 s = .ok →
        exec p.1 s = ends 0x0C (stepping s) ∧
        exec p.2.1 s = .next (t.setCtx { stepping s with delayCounter := s.params.dMotion })) ∧
      (skipResult p.2.2.1 s = .markHit →
        exec p.1 s = ends 0x0D (stepping s) ∧ exec p.2.1 s = ends 0x0C (stepping s)) ∧
      (skipResult p.2.2.1 s = .endOfMedium → ∀ i ∈ [p.1, p.2.1],
        exec i s = ends 0x0C (senseSet s.ctx.currentUnit p.2.2.2 (stepping s))) ∧
      (skipResult p.2.2.1 s = .error → ∀ i ∈ [p.1, p.2.1],
        exec i s = ends 0x0C (senseSet s.ctx.currentUnit EQUIP_CHECK (stepping s)))

/-! ## The end of an operation -/

/-- R224, R226 to R229: with no record open the ending status is completed and presented, or waits for the bus. -/
def Obligations.DataEndEntered : Prop :=
  ∀ s : State, s.ctx.recOpen = false →
    (let c := s.ctx
    let st := if hasBit c.pendingUnit c.currentUnit ∧ c.currentCommand ≠ 0x04 then c.status ||| 0x02 else c.status
    enterDataEnd s = s.setCtx
      { c with
        commandDone := true
        dataReady := false
        delayCounter := 0
        status := st
        bgCounter := if st &&& 0x04 = 0 ∧ c.busyFlags = 0 then s.params.dBg else c.bgCounter
        busyFlags := if st &&& 0x04 = 0 then c.busyFlags ||| bit c.currentUnit else c.busyFlags
        state := if c.selected then .ending else .dataEnd
        phase := if c.selected then .pStatus else .pNone })

/-- R225: an open record is closed first, once, and what `finishRecord` answers is added; with no record open no call is
made. -/
def Obligations.RecordClosed : Prop :=
  ∀ s : State,
    (s.ctx.recOpen = false → (enterDataEnd s).env = s.env) ∧
    (s.ctx.recOpen = true →
    let t := s.noteCall s.ctx.currentUnit .finishRecord
    let closed : Ctx := { s.ctx with recOpen := false }
    (s.nextAnswer.result = .error →
      enterDataEnd s = enterDataEnd (t.setCtx (senseSet s.ctx.currentUnit EQUIP_CHECK closed))) ∧
    (s.nextAnswer.result = .endOfMedium → s.ctx.currentCommand = 0x01 →
      enterDataEnd s = enterDataEnd (t.setCtx { closed with status := s.ctx.status ||| 0x01 })) ∧
    (s.nextAnswer.result = .endOfMedium → s.ctx.currentCommand ≠ 0x01 →
      enterDataEnd s = enterDataEnd (t.setCtx closed)) ∧
    (s.nextAnswer.result = .ok ∨ s.nextAnswer.result = .markHit →
      enterDataEnd s = enterDataEnd (t.setCtx closed)))

/-- R274 to R276, R279, R189: an accepted status concludes the operation, whether by the acknowledge event or, for one
concluded at initial status, seen as its command. -/
def Obligations.OperationConcluded : Prop :=
  ∀ s : State, AtConclusion s →
    (∀ sel hld adr sup, exec (.eackdrop sel hld adr sup) s =
      .next (s.setCtx (concludedCtx s.params.dBg (sel && hld) s.ctx))) ∧
    (s.ctx.state = .initStatus → s.out.isAckDrop = true →
      ∀ (i : Instr) (c : Byte), byteOfInstr i = some c →
        exec i s = .next (s.setCtx (concludedCtx s.params.dBg s.out.stay s.ctx)))

/-! ## Reset and halt -/

/-- R341, R150: ERESET puts every register at its "after ERESET" value, and every in-tag and bus-in of the controller is down
in the same step. -/
def Obligations.InterfaceReset : Prop :=
  ∀ (s : State) (sel hld adr cmd srv sup : Bool),
    ∃ t, exec (.ereset sel hld adr cmd srv sup) s = .next t ∧
      t = s.setCtx
        { s.ctx with
          state := .idle, phase := .pNone, selected := false, currentCommand := 0x00, commandDone := true,
          chaining := false, dataByte := 0x00, dataReady := false, dataEnd := false, status := 0x00,
          senseBytes := List.replicate s.ctx.senseBytes.length 0x00, senseIndex := 0, pendingUnit := 0,
          readyFlags := 0, currentUnit := 0, statusUnit := 0, delayCounter := 0, recOpen := false } ∧
      drive t.ctx = ⟨false, false, false, false, false⟩ ∧ busDrive t.ctx = 0x000

/-- R140 to R147: halt before any status was accepted, in the acknowledge of the initial status, while the command runs, while
a status is presented or waits, and in the resting states. -/
def Obligations.Halt : Prop :=
  ∀ (s : State) (hld cmd srv sup : Bool), s.ctx.selected = true →
    (let h : Ctx := { s.ctx with selected := false, phase := .pNone, chaining := false }
    (s.ctx.state = .select ∨ s.ctx.state = .command →
      exec (.ehalt hld cmd srv sup) s = .next (s.setCtx (restingCtx
        { h with
          currentCommand := 0x00, commandDone := true, status := 0x00, dataReady := false, dataEnd := false }))) ∧
    (s.ctx.state = .initStatus → s.ctx.commandDone = true →
      exec (.ehalt hld cmd srv sup) s = .next (s.setCtx (concludedCtx s.params.dBg false h))) ∧
    (s.ctx.state = .initStatus → s.ctx.commandDone = false →
      exec (.ehalt hld cmd srv sup) s = .next (enterDataEnd (s.setCtx
        { h with dataEnd := true, status := s.ctx.status ||| 0x0C }))) ∧
    (s.ctx.state ∈ [CState.operate, .dataIn, .dataOut, .request] →
      exec (.ehalt hld cmd srv sup) s = .next (enterDataEnd (s.setCtx
        { h with
          dataReady := false, dataEnd := true
          status := s.ctx.status ||| (if s.ctx.recOpen then 0x08 else 0x0C) }))) ∧
    (s.ctx.state = .dataEnd → exec (.ehalt hld cmd srv sup) s = .next (s.setCtx h)) ∧
    (s.ctx.state = .ending → s.ctx.phase = .pStatus →
      exec (.ehalt hld cmd srv sup) s = .next (s.setCtx { h with state := .stack })) ∧
    (s.ctx.state = .ending → s.ctx.phase = .pStatusAck →
      exec (.ehalt hld cmd srv sup) s = .next (s.setCtx (concludedCtx s.params.dBg false h))) ∧
    (s.ctx.state = .wait → exec (.ehalt hld cmd srv sup) s = .next (s.setCtx (restingCtx h))) ∧
    (s.ctx.state = .ready → s.ctx.phase ∈ [Phase.pAddrIn, .pCmdWait, .pStatus] →
      exec (.ehalt hld cmd srv sup) s = .next (s.setCtx { h with status := 0x00 })) ∧
    (s.ctx.state = .ready → s.ctx.phase = .pStatusAck →
      exec (.ehalt hld cmd srv sup) s = .next (s.setCtx (restingCtx { h with status := 0x00 }))) ∧
    (s.ctx.state = .stack → s.ctx.status ≠ 0x00 → exec (.ehalt hld cmd srv sup) s = .next (s.setCtx h)) ∧
    (s.ctx.state = .stack → s.ctx.status = 0x00 →
      exec (.ehalt hld cmd srv sup) s = .next (s.setCtx (restingCtx h))))

/-- R148, R149: halt does nothing to a controller that is not selected, so that a second halt changes nothing. -/
def Obligations.HaltReach : Prop :=
  ∀ (s : State) (hld cmd srv sup : Bool),
    (s.ctx.selected = false → exec (.ehalt hld cmd srv sup) s = .next s) ∧
    ∀ t, exec (.ehalt hld cmd srv sup) s = .next t → exec (.ehalt hld cmd srv sup) t = .next t

/-! ## Selection -/

/-- R121 to R123: an addressed selection at rest is taken when its sub-unit is not busy and answered busy when it is; in the
course of an operation that lost the bus it is answered busy. -/
def Obligations.AddressedSelection : Prop :=
  ∀ (s : State) (u : Nat) (sup : Bool), s.ctx.selected = false → (s.ctx.phase = .pNone ∨ s.ctx.phase = .pReq) →
    s.busFree = true → parityOK s.busOut = true → scan s.registry (busByte s.busOut) = some (s.index, u) →
    (s.ctx.state ∈ [CState.idle, .wait, .ready] → hasBit s.ctx.busyFlags u = false →
      exec (.esel sup) s = .next (s.setCtx
        { s.ctx with
          state := .select, selected := true, phase := .pAddrWait, currentUnit := u, chaining := false })) ∧
    (s.ctx.state ∈ [CState.idle, .wait, .ready] → hasBit s.ctx.busyFlags u = true →
      exec (.esel sup) s = .next (s.setCtx { s.ctx with phase := .pBusy })) ∧
    (s.ctx.state ∈ [CState.operate, .request, .dataEnd, .stack] →
      exec (.esel sup) s = .next (s.setCtx { s.ctx with phase := .pBusy }))

/-- R125: a selection that is not qualified has no effect. -/
def Obligations.UnqualifiedSelection : Prop :=
  ∀ (s : State) (sup : Bool),
    (s.ctx.selected = true ∨ (s.ctx.phase ≠ .pNone ∧ s.ctx.phase ≠ .pReq) ∨ s.busFree = false ∨
      parityOK s.busOut = false ∨ ∀ u, scan s.registry (busByte s.busOut) ≠ some (s.index, u)) →
    exec (.esel sup) s = .next s

/-- R288: the chained re-address goes to SELECT for the same idle sub-unit, and releases the bus otherwise. -/
def Obligations.ChainedReaddress : Prop :=
  ∀ (s : State) (sup : Bool), s.ctx.state = .wait → s.ctx.selected = true → s.ctx.chaining = true →
    (let same : Prop := parityOK s.busOut = true ∧
      scan s.registry (busByte s.busOut) = some (s.index, s.ctx.currentUnit) ∧
      hasBit s.ctx.busyFlags s.ctx.currentUnit = false
    (same → exec (.echain sup) s =
      .next (s.setCtx { s.ctx with chaining := false, state := .select, phase := .pAddrWait })) ∧
    (¬same → exec (.echain sup) s =
      .next (s.setCtx (restingCtx { s.ctx with chaining := false, selected := false }))))

/-- R133, R134, R258: a poll is taken by a controller that asks for data service or for status; a request for status is
withdrawn instead while Suppress-Out is up; READY serves the first sub-unit after `currentUnit`, cyclically, that owes a
device-end. -/
def Obligations.PollTaken : Prop :=
  ∀ s : State, s.ctx.phase = .pReq → s.busFree = true →
    (s.ctx.state = .request → ∀ sup,
      exec (.epoll sup) s = .next (s.setCtx { s.ctx with selected := true, phase := .pAddrIn })) ∧
    (s.ctx.state = .stack ∨ s.ctx.state = .dataEnd →
      exec (.epoll false) s = .next (s.setCtx { s.ctx with selected := true, phase := .pAddrIn })) ∧
    (s.ctx.state = .stack ∨ s.ctx.state = .dataEnd ∨ s.ctx.state = .ready →
      exec (.epoll true) s = .next (s.setCtx { s.ctx with phase := .pNone })) ∧
    (s.ctx.state = .ready → ∀ k, 1 ≤ k → k ≤ s.nunits →
      hasBit s.ctx.readyFlags ((s.ctx.currentUnit + k) % s.nunits) = true →
      (∀ j, 1 ≤ j → j < k → hasBit s.ctx.readyFlags ((s.ctx.currentUnit + j) % s.nunits) = false) →
      exec (.epoll false) s = .next (s.setCtx
        { s.ctx with
          currentUnit := (s.ctx.currentUnit + k) % s.nunits, selected := true, phase := .pAddrIn }))

/-- R124, R126, R127: Address-Out drops in SELECT, the channel gives the selection up, the short busy sequence ends. -/
def Obligations.SelectionSteps : Prop :=
  ∀ s : State,
    (s.ctx.state = .select → s.ctx.phase = .pAddrWait →
      (∀ sel hld cmd srv sup,
        exec (.eadrop sel hld cmd srv sup) s = .next (s.setCtx { s.ctx with phase := .pAddrIn })) ∧
      (∀ hld cmd srv sup,
        exec (.eabandon hld cmd srv sup) s =
          .next (s.setCtx (restingCtx { s.ctx with selected := false, phase := .pNone })))) ∧
    (s.ctx.phase = .pBusy →
      (∀ hld adr cmd srv sup,
        exec (.ebusyendSel0 hld adr cmd srv sup) s = .next (s.setCtx { s.ctx with phase := .pNone })) ∧
      (∀ sel hld cmd srv sup,
        exec (.ebusyendAdr0 sel hld cmd srv sup) s = .next (s.setCtx { s.ctx with phase := .pNone })))

/-! ## The handshake -/

/-- R128, R135, R259: Command-Out in SELECT runs the command on bus-out, which is captured; after a poll it means proceed. -/
def Obligations.CommandOut : Prop :=
  ∀ (s : State) (sel hld adr sup : Bool), s.ctx.phase = .pAddrIn →
    (s.ctx.state = .select → s.out.isCommandOut = true →
      ∃ t, exec (.ecmd sel hld adr sup) s = .next t ∧ exec (instrOfByte (busByte s.busOut)) s = .next t ∧
        t.ctx.state = .command ∧ t.ctx.phase = .pCmdWait) ∧
    (s.ctx.state ∈ [CState.request, .stack, .dataEnd, .ready] →
      exec (.ecmd sel hld adr sup) s = .next (s.setCtx { s.ctx with phase := .pCmdWait }))

/-- R136, R184, R260: Command-Out drops: the initial status, the resumption after a poll, the unsolicited status. -/
def Obligations.CommandDrop : Prop :=
  ∀ (s : State) (sel hld adr srv sup : Bool), s.ctx.phase = .pCmdWait →
    (s.ctx.state = .command →
      exec (.ecmddrop sel hld adr srv sup) s = .next (s.setCtx { s.ctx with phase := .pStatus })) ∧
    (s.ctx.state = .request →
      exec (.ecmddrop sel hld adr srv sup) s = .next (s.setCtx { s.ctx with state := .operate, phase := .pNone })) ∧
    (s.ctx.state = .stack ∨ s.ctx.state = .dataEnd →
      exec (.ecmddrop sel hld adr srv sup) s = .next (s.setCtx { s.ctx with state := .ending, phase := .pStatus })) ∧
    (s.ctx.state = .ready →
      exec (.ecmddrop sel hld adr srv sup) s = .next (s.setCtx
        { s.ctx with
          status := if hasBit s.ctx.pendingUnit s.ctx.currentUnit then 0x06 else 0x04, phase := .pStatus }))

/-- R173, R186, R262, R272: a status is accepted. -/
def Obligations.StatusAccepted : Prop :=
  ∀ (s : State) (sel hld adr sup : Bool), s.ctx.phase = .pStatus →
    (s.ctx.state = .command →
      exec (.eaccept sel hld adr sup) s = .next (s.setCtx
        { s.ctx with
          readyFlags := s.ctx.readyFlags &&& ~~~bit s.ctx.currentUnit
          chaining := if s.ctx.commandDone then sup else false
          state := .initStatus
          phase := .pStatusAck })) ∧
    (s.ctx.state = .ready →
      exec (.eaccept sel hld adr sup) s = .next (s.setCtx
        { s.ctx with
          readyFlags := s.ctx.readyFlags &&& ~~~bit s.ctx.currentUnit, chaining := false, phase := .pStatusAck })) ∧
    (s.ctx.state = .ending →
      exec (.eaccept sel hld adr sup) s = .next (s.setCtx { s.ctx with chaining := sup, phase := .pStatusAck }))

/-- R214, R219: a byte is accepted by the channel, or captured from bus-out with its parity checked. -/
def Obligations.ByteTransferred : Prop :=
  ∀ (s : State) (sel hld adr sup : Bool), s.ctx.phase = .pService →
    (s.ctx.state = .dataOut →
      exec (.eaccept sel hld adr sup) s =
        .next (s.setCtx { s.ctx with dataReady := false, phase := .pServiceAck })) ∧
    (s.ctx.state = .dataIn →
      exec (.eaccept sel hld adr sup) s = .next (s.setCtx
        { (if parityOK s.busOut = true then s.ctx else senseSet s.ctx.currentUnit BUS_CHECK s.ctx) with
          dataByte := busByte s.busOut, dataReady := true, phase := .pServiceAck }))

/-- R185, R261, R273: a status is stacked. -/
def Obligations.StatusStacked : Prop :=
  ∀ (s : State) (sel hld adr sup : Bool), s.ctx.phase = .pStatus →
    (s.ctx.state = .command →
      exec (.estack sel hld adr sup) s = .next (s.setCtx
        { s.ctx with
          currentCommand := if s.ctx.commandDone then s.ctx.currentCommand else 0x00
          commandDone := true
          status := if hasBit s.ctx.readyFlags s.ctx.currentUnit then 0x00 else s.ctx.status
          state := .stack
          phase := .pStatusAck })) ∧
    (s.ctx.state = .ready →
      exec (.estack sel hld adr sup) s = .next (s.setCtx { s.ctx with phase := .pStatusAck })) ∧
    (s.ctx.state = .ending →
      exec (.estack sel hld adr sup) s = .next (s.setCtx { s.ctx with state := .stack, phase := .pStatusAck }))

/-- R215, R220: the channel stops a transfer. -/
def Obligations.TransferStopped : Prop :=
  ∀ (s : State) (sel hld adr sup : Bool), s.ctx.phase = .pService →
    (s.ctx.state = .dataOut → s.ctx.currentCommand = 0x02 ∨ s.ctx.currentCommand = 0x0C →
      exec (.estop sel hld adr sup) s = .next (s.setCtx
        { s.ctx with
          dataReady := false, dataEnd := true, phase := .pServiceAck, status := s.ctx.status ||| 0x08 })) ∧
    (s.ctx.state = .dataOut → s.ctx.currentCommand = 0x04 →
      exec (.estop sel hld adr sup) s = .next (s.setCtx
        { s.ctx with
          dataReady := false, dataEnd := true, phase := .pServiceAck, status := s.ctx.status ||| 0x0C })) ∧
    (s.ctx.state = .dataIn →
      exec (.estop sel hld adr sup) s = .next (s.setCtx
        { s.ctx with dataEnd := true, phase := .pServiceAck, status := s.ctx.status ||| 0x0C }))

/-- R188, R216, R221, R263, R283: the channel's response drops: the work of a command starts, a byte is over, READY's
delivery is over, a stacked status is left. -/
def Obligations.AckDropped : Prop :=
  ∀ (s : State) (sel hld adr sup : Bool),
    (s.ctx.state = .initStatus → s.ctx.phase = .pStatusAck → s.ctx.commandDone = false →
      isWorkCommand s.ctx.currentCommand = true → s.out = ⟨true, sel, hld, adr, false, false, sup⟩ →
      exec (.eackdrop sel hld adr sup) s = exec (instrOfByte s.ctx.currentCommand) s) ∧
    (s.ctx.state = .dataOut ∨ s.ctx.state = .dataIn → s.ctx.phase = .pServiceAck →
      (let c : Ctx := { s.ctx with phase := .pNone, selected := s.ctx.selected && (sel && hld) }
      exec (.eackdrop sel hld adr sup) s =
        if s.ctx.dataEnd = true then .next (enterDataEnd (s.setCtx c))
        else .next (s.setCtx { c with state := .operate, delayCounter := s.params.dByte }))) ∧
    (s.ctx.state = .ready → s.ctx.phase = .pStatusAck →
      exec (.eackdrop sel hld adr sup) s =
        .next (s.setCtx (restingCtx { s.ctx with selected := false, phase := .pNone, status := 0x00 }))) ∧
    (s.ctx.state = .stack → s.ctx.phase = .pStatusAck → s.ctx.selected = true →
      exec (.eackdrop sel hld adr sup) s =
        if s.ctx.status = 0x00 then
          .next (s.setCtx (restingCtx { s.ctx with selected := false, phase := .pNone, currentCommand := 0x00 }))
        else .next (s.setCtx { s.ctx with selected := false, phase := .pNone }))

/-! ## Cycles without an event -/

/-- R117, R132, R133, R200, R257, R280, R289, R290: what a cycle without an event does in each state, and the hold in every
phase of a handshake, of a request for data service, and of the short busy sequence. -/
def Obligations.QuietCycle : Prop :=
  ∀ (s : State) (o : OutTags),
    (AtRest s →
      exec (.hold o) s = .next (s.setCtx
        { s.ctx with
          state := if s.ctx.readyFlags ≠ 0 then .ready else if s.ctx.busyFlags ≠ 0 then .wait else .idle
          phase :=
            if s.ctx.readyFlags ≠ 0 then (if o.sup then .pNone else .pReq) else s.ctx.phase })) ∧
    (s.ctx.state = .request → s.ctx.selected = false → s.ctx.phase = .pNone →
      exec (.hold o) s = .next (s.setCtx { s.ctx with phase := .pReq })) ∧
    (s.ctx.state = .stack ∨ s.ctx.state = .dataEnd → s.ctx.selected = false →
      s.ctx.phase = .pNone ∨ s.ctx.phase = .pReq →
      exec (.hold o) s = .next (s.setCtx { s.ctx with phase := if o.sup then .pNone else .pReq })) ∧
    (s.ctx.state = .wait → s.ctx.selected = true → s.ctx.chaining = true → s.ctx.phase = .pNone →
      exec (.hold o) s =
        if o.sel = true ∧ o.hld = true then .next s
        else .next (s.setCtx (restingCtx { s.ctx with selected := false, chaining := false }))) ∧
    (s.ctx.state = .operate → s.ctx.phase = .pNone → isWorkCommand s.ctx.currentCommand = true → o = s.out →
      exec (.hold o) s = exec (instrOfByte s.ctx.currentCommand) s) ∧
    (s.ctx.state ∈ [CState.select, .command, .initStatus, .dataIn, .dataOut, .ending] ∨ s.ctx.phase = .pBusy ∨
        holdsBus s.ctx.phase = true ∨ (s.ctx.state = .request ∧ s.ctx.phase = .pReq) →
      exec (.hold o) s = .next s)

/-! ## The background tick -/

/-- R252 to R254: the tick for one sub-unit: nothing when it is not busy; the end of a finishing; for a rewind, one call,
with which it goes on, ends, or fails. That a failure leaves a stacked status of another sub-unit as it is, where R322 and
R356 disagree, is log entry 20. -/
def Obligations.BackgroundUnit : Prop :=
  ∀ (s : State) (u : Nat),
    (let done (c : Ctx) : Ctx :=
      { c with
        busyFlags := c.busyFlags &&& ~~~bit u
        rewindFlags := c.rewindFlags &&& ~~~bit u
        readyFlags := c.readyFlags ||| bit u }
    let t := s.noteCall u (.rewind s.params.rewindChunk)
    (hasBit s.ctx.busyFlags u = false → tickUnit s u = s) ∧
    (hasBit s.ctx.busyFlags u = true → hasBit s.ctx.rewindFlags u = false →
      tickUnit s u = s.setCtx (done s.ctx)) ∧
    (hasBit s.ctx.busyFlags u = true → hasBit s.ctx.rewindFlags u = true →
      (s.nextAnswer.result = .ok ∨ s.nextAnswer.result = .markHit → tickUnit s u = t) ∧
      (s.nextAnswer.result = .endOfMedium → tickUnit s u = t.setCtx (done s.ctx)) ∧
      (s.nextAnswer.result = .error → tickUnit s u = t.setCtx (done (senseSet u EQUIP_CHECK s.ctx)))))

/-- R252: the tick does nothing when no sub-unit is busy, and counts down while `bgCounter` runs; when it has run out, it
goes through the sub-units in ascending order (BackgroundUnit says what it does for each) and loads `bgCounter`, which
ends every finishing at once when no sub-unit rewinds; it never touches another register, controller or line (R113), not
even a stacked status whose sense a failed rewind overwrites: there R322 and R356 disagree, log entry 20. -/
def Obligations.BackgroundTick : Prop :=
  ∀ s : State,
    (s.ctx.busyFlags = 0 → tick s = s) ∧
    (s.ctx.busyFlags ≠ 0 → 0 < s.ctx.bgCounter →
      tick s = s.setCtx { s.ctx with bgCounter := s.ctx.bgCounter - 1 }) ∧
    (s.ctx.busyFlags ≠ 0 → s.ctx.bgCounter = 0 →
      (let t := (List.range s.nunits).foldl tickUnit s
      tick s = t.setCtx { t.ctx with bgCounter := s.params.dBg })) ∧
    (s.ctx.busyFlags ≠ 0 → s.ctx.bgCounter = 0 → s.ctx.rewindFlags = 0 → maskFits s.nunits s.ctx.busyFlags →
      tick s = s.setCtx
        { s.ctx with
          busyFlags := 0, readyFlags := s.ctx.readyFlags ||| s.ctx.busyFlags, bgCounter := s.params.dBg }) ∧
    OnlyCurrent s (tick s) ∧
    (tick s).ctx =
      { s.ctx with
        bgCounter := (tick s).ctx.bgCounter
        busyFlags := (tick s).ctx.busyFlags
        rewindFlags := (tick s).ctx.rewindFlags
        readyFlags := (tick s).ctx.readyFlags
        senseBytes := (tick s).ctx.senseBytes
        statusUnit := (tick s).ctx.statusUnit
        pendingUnit := (tick s).ctx.pendingUnit }
end

