-- ==== Sys2Proof/Laws/State.lean ====
section
/-! SUPPORT. One lemma for each reader and each update of the state, so that no proof unfolds a record update. -/

namespace Sys2Proof.Machine

/-! ## `setCtx` -/

@[simp] theorem State.setCtx_ctx (s : State) (c : Ctx) : (s.setCtx c).ctx = c := rfl
@[simp] theorem State.setCtx_params (s : State) (c : Ctx) : (s.setCtx c).params = s.params := rfl
@[simp] theorem State.setCtx_before (s : State) (c : Ctx) : (s.setCtx c).before = s.before := rfl
@[simp] theorem State.setCtx_after (s : State) (c : Ctx) : (s.setCtx c).after = s.after := rfl
@[simp] theorem State.setCtx_env (s : State) (c : Ctx) : (s.setCtx c).env = s.env := rfl
@[simp] theorem State.setCtx_cur_entry (s : State) (c : Ctx) : (s.setCtx c).cur.entry = s.cur.entry := rfl
@[simp] theorem State.setCtx_nunits (s : State) (c : Ctx) : (s.setCtx c).nunits = s.nunits := rfl
@[simp] theorem State.setCtx_index (s : State) (c : Ctx) : (s.setCtx c).index = s.index := rfl
@[simp] theorem State.setCtx_out (s : State) (c : Ctx) : (s.setCtx c).out = s.out := rfl
@[simp] theorem State.setCtx_busOut (s : State) (c : Ctx) : (s.setCtx c).busOut = s.busOut := rfl
@[simp] theorem State.setCtx_others (s : State) (c : Ctx) : (s.setCtx c).others = s.others := rfl
@[simp] theorem State.setCtx_busFree (s : State) (c : Ctx) : (s.setCtx c).busFree = s.busFree := rfl
@[simp] theorem State.setCtx_nextAnswer (s : State) (c : Ctx) : (s.setCtx c).nextAnswer = s.nextAnswer := rfl
@[simp] theorem State.setCtx_nextCond (s : State) (c : Ctx) : (s.setCtx c).nextCond = s.nextCond := rfl
@[simp] theorem State.setCtx_nextLate (s : State) (c : Ctx) : (s.setCtx c).nextLate = s.nextLate := rfl
@[simp] theorem State.setCtx_registry (s : State) (c : Ctx) :
    (s.setCtx c).registry = s.registry := by
  simp [State.registry, State.controllers, State.setCtx]
@[simp] theorem State.setCtx_legal (s : State) (c : Ctx) : (s.setCtx c).legal = s.legal := by
  simp [State.legal]
@[simp] theorem State.setCtx_nctrl (s : State) (c : Ctx) :
    (s.setCtx c).nctrl = s.nctrl := by
  simp [State.nctrl, State.controllers]
@[simp] theorem State.setCtx_addressedUnit (s : State) (c : Ctx) :
    (s.setCtx c).addressedUnit = s.addressedUnit := by
  simp [State.addressedUnit]; rfl

/-! ## `mapCtx` -/

@[simp] theorem State.mapCtx_ctx (s : State) (f : Ctx → Ctx) : (s.mapCtx f).ctx = f s.ctx := rfl
@[simp] theorem State.mapCtx_params (s : State) (f : Ctx → Ctx) : (s.mapCtx f).params = s.params := rfl
@[simp] theorem State.mapCtx_before (s : State) (f : Ctx → Ctx) : (s.mapCtx f).before = s.before := rfl
@[simp] theorem State.mapCtx_after (s : State) (f : Ctx → Ctx) : (s.mapCtx f).after = s.after := rfl
@[simp] theorem State.mapCtx_env (s : State) (f : Ctx → Ctx) : (s.mapCtx f).env = s.env := rfl
@[simp] theorem State.mapCtx_cur_entry (s : State) (f : Ctx → Ctx) : (s.mapCtx f).cur.entry = s.cur.entry := rfl
@[simp] theorem State.mapCtx_nunits (s : State) (f : Ctx → Ctx) : (s.mapCtx f).nunits = s.nunits := rfl
@[simp] theorem State.mapCtx_index (s : State) (f : Ctx → Ctx) : (s.mapCtx f).index = s.index := rfl
@[simp] theorem State.mapCtx_out (s : State) (f : Ctx → Ctx) : (s.mapCtx f).out = s.out := rfl
@[simp] theorem State.mapCtx_busOut (s : State) (f : Ctx → Ctx) : (s.mapCtx f).busOut = s.busOut := rfl
@[simp] theorem State.mapCtx_others (s : State) (f : Ctx → Ctx) : (s.mapCtx f).others = s.others := rfl
@[simp] theorem State.mapCtx_busFree (s : State) (f : Ctx → Ctx) : (s.mapCtx f).busFree = s.busFree := rfl
@[simp] theorem State.mapCtx_nextAnswer (s : State) (f : Ctx → Ctx) : (s.mapCtx f).nextAnswer = s.nextAnswer := rfl
@[simp] theorem State.mapCtx_nextCond (s : State) (f : Ctx → Ctx) : (s.mapCtx f).nextCond = s.nextCond := rfl
@[simp] theorem State.mapCtx_nextLate (s : State) (f : Ctx → Ctx) : (s.mapCtx f).nextLate = s.nextLate := rfl
@[simp] theorem State.mapCtx_registry (s : State) (f : Ctx → Ctx) :
    (s.mapCtx f).registry = s.registry := by
  simp [State.registry, State.controllers, State.mapCtx, State.setCtx]
@[simp] theorem State.mapCtx_legal (s : State) (f : Ctx → Ctx) :
    (s.mapCtx f).legal = s.legal := by
  simp [State.legal]
@[simp] theorem State.mapCtx_nctrl (s : State) (f : Ctx → Ctx) :
    (s.mapCtx f).nctrl = s.nctrl := by
  simp [State.nctrl, State.controllers]
@[simp] theorem State.mapCtx_addressedUnit (s : State) (f : Ctx → Ctx) :
    (s.mapCtx f).addressedUnit = s.addressedUnit := by
  simp [State.addressedUnit]; rfl

/-! ## `setEnv` -/

@[simp] theorem State.setEnv_ctx (s : State) (e : Env) : (s.setEnv e).ctx = s.ctx := rfl
@[simp] theorem State.setEnv_params (s : State) (e : Env) : (s.setEnv e).params = s.params := rfl
@[simp] theorem State.setEnv_before (s : State) (e : Env) : (s.setEnv e).before = s.before := rfl
@[simp] theorem State.setEnv_after (s : State) (e : Env) : (s.setEnv e).after = s.after := rfl
@[simp] theorem State.setEnv_env (s : State) (e : Env) : (s.setEnv e).env = e := rfl
@[simp] theorem State.setEnv_cur_entry (s : State) (e : Env) : (s.setEnv e).cur.entry = s.cur.entry := rfl
@[simp] theorem State.setEnv_nunits (s : State) (e : Env) : (s.setEnv e).nunits = s.nunits := rfl
@[simp] theorem State.setEnv_index (s : State) (e : Env) : (s.setEnv e).index = s.index := rfl
@[simp] theorem State.setEnv_out (s : State) (e : Env) : (s.setEnv e).out = e.line.out := rfl
@[simp] theorem State.setEnv_busOut (s : State) (e : Env) : (s.setEnv e).busOut = e.line.busOut := rfl
@[simp] theorem State.setEnv_others (s : State) (e : Env) : (s.setEnv e).others = s.others := rfl
@[simp] theorem State.setEnv_busFree (s : State) (e : Env) : (s.setEnv e).busFree = s.busFree := rfl
@[simp] theorem State.setEnv_registry (s : State) (e : Env) :
    (s.setEnv e).registry = s.registry := by
  simp [State.registry, State.controllers, State.setEnv]
@[simp] theorem State.setEnv_legal (s : State) (e : Env) : (s.setEnv e).legal = s.legal := by
  simp [State.legal]
@[simp] theorem State.setEnv_nctrl (s : State) (e : Env) :
    (s.setEnv e).nctrl = s.nctrl := by
  simp [State.nctrl, State.controllers]

/-! ## `noteCall` -/

@[simp] theorem State.noteCall_ctx (s : State) (u : Nat) (k : CodecCall) : (s.noteCall u k).ctx = s.ctx := rfl
@[simp] theorem State.noteCall_params (s : State) (u : Nat) (k : CodecCall) :
    (s.noteCall u k).params = s.params := rfl
@[simp] theorem State.noteCall_before (s : State) (u : Nat) (k : CodecCall) :
    (s.noteCall u k).before = s.before := rfl
@[simp] theorem State.noteCall_after (s : State) (u : Nat) (k : CodecCall) : (s.noteCall u k).after = s.after := rfl
@[simp] theorem State.noteCall_env (s : State) (u : Nat) (k : CodecCall) :
    (s.noteCall u k).env = { s.env with answers := s.env.answers.tail, drawn := s.env.drawn + 1, calls := ⟨s.index, u, k⟩ :: s.env.calls } := rfl
@[simp] theorem State.noteCall_cur_entry (s : State) (u : Nat) (k : CodecCall) :
    (s.noteCall u k).cur.entry = s.cur.entry := rfl
@[simp] theorem State.noteCall_nunits (s : State) (u : Nat) (k : CodecCall) :
    (s.noteCall u k).nunits = s.nunits := rfl
@[simp] theorem State.noteCall_index (s : State) (u : Nat) (k : CodecCall) : (s.noteCall u k).index = s.index := rfl
@[simp] theorem State.noteCall_out (s : State) (u : Nat) (k : CodecCall) : (s.noteCall u k).out = s.out := rfl
@[simp] theorem State.noteCall_busOut (s : State) (u : Nat) (k : CodecCall) :
    (s.noteCall u k).busOut = s.busOut := rfl
@[simp] theorem State.noteCall_others (s : State) (u : Nat) (k : CodecCall) :
    (s.noteCall u k).others = s.others := rfl
@[simp] theorem State.noteCall_busFree (s : State) (u : Nat) (k : CodecCall) :
    (s.noteCall u k).busFree = s.busFree := rfl
@[simp] theorem State.noteCall_registry (s : State) (u : Nat) (k : CodecCall) :
    (s.noteCall u k).registry = s.registry := by
  simp [State.registry, State.controllers, State.noteCall, State.setEnv]
@[simp] theorem State.noteCall_legal (s : State) (u : Nat) (k : CodecCall) :
    (s.noteCall u k).legal = s.legal := by
  simp [State.legal]
@[simp] theorem State.noteCall_nctrl (s : State) (u : Nat) (k : CodecCall) :
    (s.noteCall u k).nctrl = s.nctrl := by
  simp [State.nctrl, State.controllers]
@[simp] theorem State.noteCall_addressedUnit (s : State) (u : Nat) (k : CodecCall) :
    (s.noteCall u k).addressedUnit = s.addressedUnit := by
  simp [State.addressedUnit]; rfl

/-! ## `useCond` -/

@[simp] theorem State.useCond_ctx (s : State) : (s.useCond).ctx = s.ctx := rfl
@[simp] theorem State.useCond_params (s : State) : (s.useCond).params = s.params := rfl
@[simp] theorem State.useCond_before (s : State) : (s.useCond).before = s.before := rfl
@[simp] theorem State.useCond_after (s : State) : (s.useCond).after = s.after := rfl
@[simp] theorem State.useCond_env (s : State) :
    (s.useCond).env = { s.env with conds := s.env.conds.tail, drawn := s.env.drawn + 1 } := rfl
@[simp] theorem State.useCond_cur_entry (s : State) : (s.useCond).cur.entry = s.cur.entry := rfl
@[simp] theorem State.useCond_nunits (s : State) : (s.useCond).nunits = s.nunits := rfl
@[simp] theorem State.useCond_index (s : State) : (s.useCond).index = s.index := rfl
@[simp] theorem State.useCond_out (s : State) : (s.useCond).out = s.out := rfl
@[simp] theorem State.useCond_busOut (s : State) : (s.useCond).busOut = s.busOut := rfl
@[simp] theorem State.useCond_others (s : State) : (s.useCond).others = s.others := rfl
@[simp] theorem State.useCond_busFree (s : State) : (s.useCond).busFree = s.busFree := rfl
@[simp] theorem State.useCond_registry (s : State) :
    (s.useCond).registry = s.registry := by
  simp [State.registry, State.controllers, State.useCond, State.setEnv]
@[simp] theorem State.useCond_legal (s : State) : (s.useCond).legal = s.legal := by
  simp [State.legal]
@[simp] theorem State.useCond_nctrl (s : State) :
    (s.useCond).nctrl = s.nctrl := by
  simp [State.nctrl, State.controllers]
@[simp] theorem State.useCond_addressedUnit (s : State) :
    (s.useCond).addressedUnit = s.addressedUnit := by
  simp [State.addressedUnit]; rfl

/-! ## `useLate` -/

@[simp] theorem State.useLate_ctx (s : State) : (s.useLate).ctx = s.ctx := rfl
@[simp] theorem State.useLate_params (s : State) : (s.useLate).params = s.params := rfl
@[simp] theorem State.useLate_before (s : State) : (s.useLate).before = s.before := rfl
@[simp] theorem State.useLate_after (s : State) : (s.useLate).after = s.after := rfl
@[simp] theorem State.useLate_env (s : State) :
    (s.useLate).env = { s.env with lates := s.env.lates.tail, drawn := s.env.drawn + 1 } := rfl
@[simp] theorem State.useLate_cur_entry (s : State) : (s.useLate).cur.entry = s.cur.entry := rfl
@[simp] theorem State.useLate_nunits (s : State) : (s.useLate).nunits = s.nunits := rfl
@[simp] theorem State.useLate_index (s : State) : (s.useLate).index = s.index := rfl
@[simp] theorem State.useLate_out (s : State) : (s.useLate).out = s.out := rfl
@[simp] theorem State.useLate_busOut (s : State) : (s.useLate).busOut = s.busOut := rfl
@[simp] theorem State.useLate_others (s : State) : (s.useLate).others = s.others := rfl
@[simp] theorem State.useLate_busFree (s : State) : (s.useLate).busFree = s.busFree := rfl
@[simp] theorem State.useLate_registry (s : State) :
    (s.useLate).registry = s.registry := by
  simp [State.registry, State.controllers, State.useLate, State.setEnv]
@[simp] theorem State.useLate_legal (s : State) : (s.useLate).legal = s.legal := by
  simp [State.legal]
@[simp] theorem State.useLate_nctrl (s : State) :
    (s.useLate).nctrl = s.nctrl := by
  simp [State.nctrl, State.controllers]
@[simp] theorem State.useLate_addressedUnit (s : State) :
    (s.useLate).addressedUnit = s.addressedUnit := by
  simp [State.addressedUnit]; rfl

/-! ## `pushLine` -/

@[simp] theorem State.pushLine_ctx (s : State) (l : CycleIn) : (s.pushLine l).ctx = s.ctx := rfl
@[simp] theorem State.pushLine_params (s : State) (l : CycleIn) : (s.pushLine l).params = s.params := rfl
@[simp] theorem State.pushLine_before (s : State) (l : CycleIn) : (s.pushLine l).before = s.before := rfl
@[simp] theorem State.pushLine_after (s : State) (l : CycleIn) : (s.pushLine l).after = s.after := rfl
@[simp] theorem State.pushLine_env (s : State) (l : CycleIn) :
    (s.pushLine l).env = { s.env with lines := l :: s.env.lines } := rfl
@[simp] theorem State.pushLine_cur_entry (s : State) (l : CycleIn) : (s.pushLine l).cur.entry = s.cur.entry := rfl
@[simp] theorem State.pushLine_nunits (s : State) (l : CycleIn) : (s.pushLine l).nunits = s.nunits := rfl
@[simp] theorem State.pushLine_index (s : State) (l : CycleIn) : (s.pushLine l).index = s.index := rfl
@[simp] theorem State.pushLine_out (s : State) (l : CycleIn) : (s.pushLine l).out = l.out := rfl
@[simp] theorem State.pushLine_busOut (s : State) (l : CycleIn) : (s.pushLine l).busOut = l.busOut := rfl
@[simp] theorem State.pushLine_others (s : State) (l : CycleIn) : (s.pushLine l).others = s.others := rfl
@[simp] theorem State.pushLine_busFree (s : State) (l : CycleIn) : (s.pushLine l).busFree = s.busFree := rfl
@[simp] theorem State.pushLine_nextAnswer (s : State) (l : CycleIn) : (s.pushLine l).nextAnswer = s.nextAnswer := rfl
@[simp] theorem State.pushLine_nextCond (s : State) (l : CycleIn) : (s.pushLine l).nextCond = s.nextCond := rfl
@[simp] theorem State.pushLine_nextLate (s : State) (l : CycleIn) : (s.pushLine l).nextLate = s.nextLate := rfl
@[simp] theorem State.pushLine_registry (s : State) (l : CycleIn) :
    (s.pushLine l).registry = s.registry := by
  simp [State.registry, State.controllers, State.pushLine, State.setEnv]
@[simp] theorem State.pushLine_legal (s : State) (l : CycleIn) :
    (s.pushLine l).legal = s.legal := by
  simp [State.legal]
@[simp] theorem State.pushLine_nctrl (s : State) (l : CycleIn) :
    (s.pushLine l).nctrl = s.nctrl := by
  simp [State.nctrl, State.controllers]

/-! ## Updates on one another -/

@[simp] theorem State.setCtx_setCtx (s : State) (c d : Ctx) : (s.setCtx c).setCtx d = s.setCtx d := rfl
@[simp] theorem State.setCtx_ctx_self (s : State) : s.setCtx s.ctx = s := rfl
@[simp] theorem State.mapCtx_id (s : State) : s.mapCtx id = s := rfl

/-- `mapCtx` is `setCtx` of the changed context. -/
theorem State.mapCtx_eq (s : State) (f : Ctx → Ctx) : s.mapCtx f = s.setCtx (f s.ctx) := rfl

@[simp] theorem State.setCtx_noteCall (s : State) (c : Ctx) (u : Nat) (k : CodecCall) :
    (s.setCtx c).noteCall u k = (s.noteCall u k).setCtx c := rfl
@[simp] theorem State.setCtx_useCond (s : State) (c : Ctx) : (s.setCtx c).useCond = s.useCond.setCtx c := rfl
@[simp] theorem State.setCtx_useLate (s : State) (c : Ctx) : (s.setCtx c).useLate = s.useLate.setCtx c := rfl

end Sys2Proof.Machine
end

