-- ==== Sys2Proof/Laws/Bus.lean ====
section
/-! SUPPORT. When the bus is free (spec/40_selection_sequencer.md R119), in terms of the other controllers' contexts: what decides
whether a requesting controller takes a poll in the cycle in which another one releases the bus (R107, R352 item 5). -/

namespace Sys2Proof.Machine

/-- A controller keeps off the lines that make the bus busy: Operational-In, Address-In, Status-In, Service-In (R115). -/
abbrev OffBus (c : Ctx) : Prop :=
  c.selected = false ∧ c.phase ≠ .pAddrIn ∧ c.phase ≠ .pStatus ∧ c.phase ≠ .pBusy ∧ c.phase ≠ .pService

theorem driveAll_cons (k : Controller) (ks : List Controller) :
    driveAll (k :: ks) = (drive k.ctx).or (driveAll ks) := rfl

/-- The four lines of the wired-OR are down just when every controller is off the bus. -/
theorem driveAll_free (ks : List Controller) :
    ((driveAll ks).opr = false ∧ (driveAll ks).adr = false ∧ (driveAll ks).sta = false ∧ (driveAll ks).srv = false) ↔
      ∀ k ∈ ks, OffBus k.ctx := by
  induction ks with
  | nil => simp [driveAll, InTags.down]
  | cons k ks ih =>
    rw [List.forall_mem_cons, ← ih, driveAll_cons]
    simp only [InTags.or, drive, Bool.or_eq_false_iff, beq_eq_false_iff_ne]
    tauto

/-- The bus is free for the controller whose turn it is just when all the others are off it: those before it as this cycle
left them, those after it as the cycle before did (R111, R119). -/
theorem busFree_iff (s : State) : s.busFree = true ↔ ∀ k ∈ s.before ++ s.after, OffBus k.ctx := by
  rw [← driveAll_free]
  simp [State.busFree, State.others, and_assoc]

end Sys2Proof.Machine
end

