-- ==== Sys2Proof/Laws/Capture.lean ====
section
/-! SUPPORT. The rows of the capture table (R170), one lemma each; what `capture` is with a row known; and where a command's
three phases of life are (capture, start, device step). -/

namespace Sys2Proof.Machine

variable {cmd : Byte} {w : BusWord} {d : DevCond} {c : Ctx} {s : State}

/-! ## The rows of R170 -/

/-- Row 1 (R172). -/
theorem captureTable_deviceEnd (h : hasBit c.readyFlags c.currentUnit = true) :
    captureTable cmd w d c = presentPending cmd w c := if_pos h

/-- Row 2 (R171). -/
theorem captureTable_parity (h1 : hasBit c.readyFlags c.currentUnit = false) (h2 : parityOK w = false) :
    captureTable cmd w d c = reject BUS_CHECK c := by
  simp only [captureTable, h1, h2, Bool.false_eq_true, if_false, Bool.not_false, if_true]

/-- Row 3 (R174). -/
theorem captureTable_illegal (h1 : hasBit c.readyFlags c.currentUnit = false) (h2 : parityOK w = true)
    (h3 : legal cmd = false) : captureTable cmd w d c = reject CMD_REJECT c := by
  simp only [captureTable, h1, h2, h3, Bool.false_eq_true, if_false, Bool.not_false, Bool.not_true, if_true]

/-- Row 4 (R175). -/
theorem captureTable_sensePending (h1 : hasBit c.readyFlags c.currentUnit = false) (h2 : parityOK w = true)
    (h3 : legal cmd = true) (h4 : hasBit c.pendingUnit c.currentUnit = true) (h5 : cmd ≠ 0x04) :
    captureTable cmd w d c = reject CMD_REJECT c := by
  have h6 : (cmd != 0x04) = true := by simpa using h5
  simp only [captureTable, h1, h2, h3, h4, h6, Bool.false_eq_true, if_false, Bool.not_true, Bool.and_self, if_true]

/-- The first four rows do not apply. -/
structure PastRow4 (cmd : Byte) (w : BusWord) (c : Ctx) : Prop where
  ready : hasBit c.readyFlags c.currentUnit = false
  parity : parityOK w = true
  legal : legal cmd = true
  sense : hasBit c.pendingUnit c.currentUnit = false ∨ cmd = 0x04

/-- Past row 4 the table is its last seven rows. -/
theorem captureTable_past (h : PastRow4 cmd w c) :
    captureTable cmd w d c =
      if !d.attached && !acceptedNotReady cmd then reject INT_REQ c
      else if d.readOnly && writesMedium cmd then reject CMD_REJECT c
      else if d.atLoadPoint && movesBackward cmd then reject CMD_REJECT c
      else if cmd = 0x00 then conclude 0x00 0x00 c
      else if classOf cmd = 3 then conclude (CE ||| DE) cmd c
      else if cmd = 0x07 ∨ cmd = 0x0F then conclude CE cmd c
      else acceptWork cmd c := by
  have h6 : (hasBit c.pendingUnit c.currentUnit && cmd != 0x04) = false := by
    rcases h.sense with h | h <;> simp [h]
  simp only [captureTable, h.ready, h.parity, h.legal, h6, Bool.false_eq_true, if_false, Bool.not_true]

/-- Row 5 (R176). -/
theorem captureTable_notReady (h : PastRow4 cmd w c) (h5 : d.attached = false) (h6 : acceptedNotReady cmd = false) :
    captureTable cmd w d c = reject INT_REQ c := by
  rw [captureTable_past h, if_pos (by simp [h5, h6])]

/-- Row 6 (R177). -/
theorem captureTable_readOnly (h : PastRow4 cmd w c) (h5 : d.attached = true) (h6 : d.readOnly = true)
    (h7 : writesMedium cmd = true) : captureTable cmd w d c = reject CMD_REJECT c := by
  rw [captureTable_past h, if_neg (by simp [h5]), if_pos (by simp [h6, h7])]

/-- Row 7 (R178). -/
theorem captureTable_loadPoint (h : PastRow4 cmd w c) (h5 : d.attached = true) (h6 : writesMedium cmd = false)
    (h7 : d.atLoadPoint = true) (h8 : movesBackward cmd = true) : captureTable cmd w d c = reject CMD_REJECT c := by
  rw [captureTable_past h, if_neg (by simp [h5]), if_neg (by simp [h6]), if_pos (by simp [h7, h8])]

/-- The device conditions let the command through (rows 5 to 7 do not apply). -/
structure Admits (cmd : Byte) (d : DevCond) : Prop where
  attached : d.attached = true ∨ acceptedNotReady cmd = true
  writable : d.readOnly = false ∨ writesMedium cmd = false
  backward : d.atLoadPoint = false ∨ movesBackward cmd = false

/-- Rows 8 to 11 (R180 to R183). -/
theorem captureTable_accepted (h : PastRow4 cmd w c) (k : Admits cmd d) :
    captureTable cmd w d c =
      if cmd = 0x00 then conclude 0x00 0x00 c
      else if classOf cmd = 3 then conclude (CE ||| DE) cmd c
      else if cmd = 0x07 ∨ cmd = 0x0F then conclude CE cmd c
      else acceptWork cmd c := by
  rw [captureTable_past h, if_neg (by rcases k.attached with h | h <;> simp [h]),
    if_neg (by rcases k.writable with h | h <;> simp [h]), if_neg (by rcases k.backward with h | h <;> simp [h])]

/-! ## Capture with a row known -/

/-- The context that the table is applied to (R170). -/
abbrev clearedCtx (c : Ctx) : Ctx := { c with dataReady := false, dataEnd := false, senseIndex := 0, delayCounter := 0 }

/-- Every row leaves the registers that capture has cleared as they are. -/
theorem capture_of_table {e : Ctx} (h : captureTable cmd s.busOut s.nextCond (clearedCtx s.ctx) = clearedCtx e) :
    capture cmd s = captured s e := by
  simp only [capture, State.mapCtx_eq, State.useCond_ctx, captured]
  rw [h]

/-- A command that acts at capture is captured, whatever it is. -/
theorem concludedCommand_capture (h : AtCapture s) : concludedCommand cmd s = capture cmd s := by
  simp only [concludedCommand, h.1, h.2.1, h.2.2, if_true]

theorem workCommand_capture {start device : State → State} (h : AtCapture s) :
    workCommand cmd start device s = capture cmd s := by
  simp only [workCommand, h.1, h.2.1, h.2.2, if_true]

theorem workCommand_start {start device : State → State} (h : AtBranch s) (h' : s.ctx.commandDone = false) :
    workCommand cmd start device s = start (beginWork s.out s) := by
  simp only [workCommand, h.1, h.2.1, h.2.2, h', if_true, Bool.false_eq_true, if_false]

theorem workCommand_device {start device : State → State} (h : s.ctx.state = .operate) (h' : s.ctx.phase = .pNone) :
    workCommand cmd start device s = operate s.out device s := by
  simp only [workCommand, h, h']

end Sys2Proof.Machine
end

