-- ==== Sys2Proof/Laws/Ops.lean ====
section
/-! SUPPORT. What each shared operation does, said once: the registers that a small step on the context writes and leaves, and
the form each operation on the state takes on `s.setCtx c`, so that no proof unfolds one. -/

namespace Sys2Proof.Machine

variable {u : Nat} {mask x : Byte} {c : Ctx} {o : OutTags} {p : Phase} {b : Bool} {n : Nat} {s : State}

/-! ## `senseSet`: R311 -/

@[simp] theorem senseSet_address : (senseSet u mask c).address = c.address := rfl
@[simp] theorem senseSet_state : (senseSet u mask c).state = c.state := rfl
@[simp] theorem senseSet_phase : (senseSet u mask c).phase = c.phase := rfl
@[simp] theorem senseSet_selected : (senseSet u mask c).selected = c.selected := rfl
@[simp] theorem senseSet_currentCommand : (senseSet u mask c).currentCommand = c.currentCommand := rfl
@[simp] theorem senseSet_commandDone : (senseSet u mask c).commandDone = c.commandDone := rfl
@[simp] theorem senseSet_chaining : (senseSet u mask c).chaining = c.chaining := rfl
@[simp] theorem senseSet_dataByte : (senseSet u mask c).dataByte = c.dataByte := rfl
@[simp] theorem senseSet_dataReady : (senseSet u mask c).dataReady = c.dataReady := rfl
@[simp] theorem senseSet_dataEnd : (senseSet u mask c).dataEnd = c.dataEnd := rfl
@[simp] theorem senseSet_status : (senseSet u mask c).status = c.status := rfl
@[simp] theorem senseSet_senseBytes :
    (senseSet u mask c).senseBytes =
      orFirst mask (if c.pendingUnit ≠ 0 ∧ c.statusUnit ≠ u then zeroBytes c.senseBytes else c.senseBytes) := rfl
@[simp] theorem senseSet_senseIndex : (senseSet u mask c).senseIndex = c.senseIndex := rfl
@[simp] theorem senseSet_pendingUnit : (senseSet u mask c).pendingUnit = bit u := rfl
@[simp] theorem senseSet_readyFlags : (senseSet u mask c).readyFlags = c.readyFlags := rfl
@[simp] theorem senseSet_busyFlags : (senseSet u mask c).busyFlags = c.busyFlags := rfl
@[simp] theorem senseSet_rewindFlags : (senseSet u mask c).rewindFlags = c.rewindFlags := rfl
@[simp] theorem senseSet_currentUnit : (senseSet u mask c).currentUnit = c.currentUnit := rfl
@[simp] theorem senseSet_statusUnit : (senseSet u mask c).statusUnit = u := rfl
@[simp] theorem senseSet_delayCounter : (senseSet u mask c).delayCounter = c.delayCounter := rfl
@[simp] theorem senseSet_bgCounter : (senseSet u mask c).bgCounter = c.bgCounter := rfl
@[simp] theorem senseSet_recOpen : (senseSet u mask c).recOpen = c.recOpen := rfl

/-! ## `addStatus`: R161 -/

@[simp] theorem addStatus_address : (addStatus x c).address = c.address := rfl
@[simp] theorem addStatus_state : (addStatus x c).state = c.state := rfl
@[simp] theorem addStatus_phase : (addStatus x c).phase = c.phase := rfl
@[simp] theorem addStatus_selected : (addStatus x c).selected = c.selected := rfl
@[simp] theorem addStatus_currentCommand : (addStatus x c).currentCommand = c.currentCommand := rfl
@[simp] theorem addStatus_commandDone : (addStatus x c).commandDone = c.commandDone := rfl
@[simp] theorem addStatus_chaining : (addStatus x c).chaining = c.chaining := rfl
@[simp] theorem addStatus_dataByte : (addStatus x c).dataByte = c.dataByte := rfl
@[simp] theorem addStatus_dataReady : (addStatus x c).dataReady = c.dataReady := rfl
@[simp] theorem addStatus_dataEnd : (addStatus x c).dataEnd = c.dataEnd := rfl
@[simp] theorem addStatus_status : (addStatus x c).status = c.status ||| x := rfl
@[simp] theorem addStatus_senseBytes : (addStatus x c).senseBytes = c.senseBytes := rfl
@[simp] theorem addStatus_senseIndex : (addStatus x c).senseIndex = c.senseIndex := rfl
@[simp] theorem addStatus_pendingUnit : (addStatus x c).pendingUnit = c.pendingUnit := rfl
@[simp] theorem addStatus_readyFlags : (addStatus x c).readyFlags = c.readyFlags := rfl
@[simp] theorem addStatus_busyFlags : (addStatus x c).busyFlags = c.busyFlags := rfl
@[simp] theorem addStatus_rewindFlags : (addStatus x c).rewindFlags = c.rewindFlags := rfl
@[simp] theorem addStatus_currentUnit : (addStatus x c).currentUnit = c.currentUnit := rfl
@[simp] theorem addStatus_statusUnit : (addStatus x c).statusUnit = c.statusUnit := rfl
@[simp] theorem addStatus_delayCounter : (addStatus x c).delayCounter = c.delayCounter := rfl
@[simp] theorem addStatus_bgCounter : (addStatus x c).bgCounter = c.bgCounter := rfl
@[simp] theorem addStatus_recOpen : (addStatus x c).recOpen = c.recOpen := rfl

/-! ## `toPhase`: a write of `phase` -/

@[simp] theorem toPhase_address : (toPhase p c).address = c.address := rfl
@[simp] theorem toPhase_state : (toPhase p c).state = c.state := rfl
@[simp] theorem toPhase_phase : (toPhase p c).phase = p := rfl
@[simp] theorem toPhase_selected : (toPhase p c).selected = c.selected := rfl
@[simp] theorem toPhase_currentCommand : (toPhase p c).currentCommand = c.currentCommand := rfl
@[simp] theorem toPhase_commandDone : (toPhase p c).commandDone = c.commandDone := rfl
@[simp] theorem toPhase_chaining : (toPhase p c).chaining = c.chaining := rfl
@[simp] theorem toPhase_dataByte : (toPhase p c).dataByte = c.dataByte := rfl
@[simp] theorem toPhase_dataReady : (toPhase p c).dataReady = c.dataReady := rfl
@[simp] theorem toPhase_dataEnd : (toPhase p c).dataEnd = c.dataEnd := rfl
@[simp] theorem toPhase_status : (toPhase p c).status = c.status := rfl
@[simp] theorem toPhase_senseBytes : (toPhase p c).senseBytes = c.senseBytes := rfl
@[simp] theorem toPhase_senseIndex : (toPhase p c).senseIndex = c.senseIndex := rfl
@[simp] theorem toPhase_pendingUnit : (toPhase p c).pendingUnit = c.pendingUnit := rfl
@[simp] theorem toPhase_readyFlags : (toPhase p c).readyFlags = c.readyFlags := rfl
@[simp] theorem toPhase_busyFlags : (toPhase p c).busyFlags = c.busyFlags := rfl
@[simp] theorem toPhase_rewindFlags : (toPhase p c).rewindFlags = c.rewindFlags := rfl
@[simp] theorem toPhase_currentUnit : (toPhase p c).currentUnit = c.currentUnit := rfl
@[simp] theorem toPhase_statusUnit : (toPhase p c).statusUnit = c.statusUnit := rfl
@[simp] theorem toPhase_delayCounter : (toPhase p c).delayCounter = c.delayCounter := rfl
@[simp] theorem toPhase_bgCounter : (toPhase p c).bgCounter = c.bgCounter := rfl
@[simp] theorem toPhase_recOpen : (toPhase p c).recOpen = c.recOpen := rfl

/-! ## `toRest`: R279 -/

@[simp] theorem toRest_address : (toRest c).address = c.address := rfl
@[simp] theorem toRest_state : (toRest c).state = restState c := rfl
@[simp] theorem toRest_phase : (toRest c).phase = c.phase := rfl
@[simp] theorem toRest_selected : (toRest c).selected = c.selected := rfl
@[simp] theorem toRest_currentCommand : (toRest c).currentCommand = c.currentCommand := rfl
@[simp] theorem toRest_commandDone : (toRest c).commandDone = c.commandDone := rfl
@[simp] theorem toRest_chaining : (toRest c).chaining = c.chaining := rfl
@[simp] theorem toRest_dataByte : (toRest c).dataByte = c.dataByte := rfl
@[simp] theorem toRest_dataReady : (toRest c).dataReady = c.dataReady := rfl
@[simp] theorem toRest_dataEnd : (toRest c).dataEnd = c.dataEnd := rfl
@[simp] theorem toRest_status : (toRest c).status = c.status := rfl
@[simp] theorem toRest_senseBytes : (toRest c).senseBytes = c.senseBytes := rfl
@[simp] theorem toRest_senseIndex : (toRest c).senseIndex = c.senseIndex := rfl
@[simp] theorem toRest_pendingUnit : (toRest c).pendingUnit = c.pendingUnit := rfl
@[simp] theorem toRest_readyFlags : (toRest c).readyFlags = c.readyFlags := rfl
@[simp] theorem toRest_busyFlags : (toRest c).busyFlags = c.busyFlags := rfl
@[simp] theorem toRest_rewindFlags : (toRest c).rewindFlags = c.rewindFlags := rfl
@[simp] theorem toRest_currentUnit : (toRest c).currentUnit = c.currentUnit := rfl
@[simp] theorem toRest_statusUnit : (toRest c).statusUnit = c.statusUnit := rfl
@[simp] theorem toRest_delayCounter : (toRest c).delayCounter = c.delayCounter := rfl
@[simp] theorem toRest_bgCounter : (toRest c).bgCounter = c.bgCounter := rfl
@[simp] theorem toRest_recOpen : (toRest c).recOpen = c.recOpen := rfl

/-! ## `keepBus`: R118 -/

@[simp] theorem keepBus_address : (keepBus o c).address = c.address := rfl
@[simp] theorem keepBus_state : (keepBus o c).state = c.state := rfl
@[simp] theorem keepBus_phase : (keepBus o c).phase = c.phase := rfl
@[simp] theorem keepBus_selected : (keepBus o c).selected = (c.selected && o.stay) := rfl
@[simp] theorem keepBus_currentCommand : (keepBus o c).currentCommand = c.currentCommand := rfl
@[simp] theorem keepBus_commandDone : (keepBus o c).commandDone = c.commandDone := rfl
@[simp] theorem keepBus_chaining : (keepBus o c).chaining = c.chaining := rfl
@[simp] theorem keepBus_dataByte : (keepBus o c).dataByte = c.dataByte := rfl
@[simp] theorem keepBus_dataReady : (keepBus o c).dataReady = c.dataReady := rfl
@[simp] theorem keepBus_dataEnd : (keepBus o c).dataEnd = c.dataEnd := rfl
@[simp] theorem keepBus_status : (keepBus o c).status = c.status := rfl
@[simp] theorem keepBus_senseBytes : (keepBus o c).senseBytes = c.senseBytes := rfl
@[simp] theorem keepBus_senseIndex : (keepBus o c).senseIndex = c.senseIndex := rfl
@[simp] theorem keepBus_pendingUnit : (keepBus o c).pendingUnit = c.pendingUnit := rfl
@[simp] theorem keepBus_readyFlags : (keepBus o c).readyFlags = c.readyFlags := rfl
@[simp] theorem keepBus_busyFlags : (keepBus o c).busyFlags = c.busyFlags := rfl
@[simp] theorem keepBus_rewindFlags : (keepBus o c).rewindFlags = c.rewindFlags := rfl
@[simp] theorem keepBus_currentUnit : (keepBus o c).currentUnit = c.currentUnit := rfl
@[simp] theorem keepBus_statusUnit : (keepBus o c).statusUnit = c.statusUnit := rfl
@[simp] theorem keepBus_delayCounter : (keepBus o c).delayCounter = c.delayCounter := rfl
@[simp] theorem keepBus_bgCounter : (keepBus o c).bgCounter = c.bgCounter := rfl
@[simp] theorem keepBus_recOpen : (keepBus o c).recOpen = c.recOpen := rfl

/-! ## `backgroundDone`: R253 -/

@[simp] theorem backgroundDone_address : (backgroundDone u c).address = c.address := rfl
@[simp] theorem backgroundDone_state : (backgroundDone u c).state = c.state := rfl
@[simp] theorem backgroundDone_phase : (backgroundDone u c).phase = c.phase := rfl
@[simp] theorem backgroundDone_selected : (backgroundDone u c).selected = c.selected := rfl
@[simp] theorem backgroundDone_currentCommand : (backgroundDone u c).currentCommand = c.currentCommand := rfl
@[simp] theorem backgroundDone_commandDone : (backgroundDone u c).commandDone = c.commandDone := rfl
@[simp] theorem backgroundDone_chaining : (backgroundDone u c).chaining = c.chaining := rfl
@[simp] theorem backgroundDone_dataByte : (backgroundDone u c).dataByte = c.dataByte := rfl
@[simp] theorem backgroundDone_dataReady : (backgroundDone u c).dataReady = c.dataReady := rfl
@[simp] theorem backgroundDone_dataEnd : (backgroundDone u c).dataEnd = c.dataEnd := rfl
@[simp] theorem backgroundDone_status : (backgroundDone u c).status = c.status := rfl
@[simp] theorem backgroundDone_senseBytes : (backgroundDone u c).senseBytes = c.senseBytes := rfl
@[simp] theorem backgroundDone_senseIndex : (backgroundDone u c).senseIndex = c.senseIndex := rfl
@[simp] theorem backgroundDone_pendingUnit : (backgroundDone u c).pendingUnit = c.pendingUnit := rfl
@[simp] theorem backgroundDone_readyFlags : (backgroundDone u c).readyFlags = addBit c.readyFlags u := rfl
@[simp] theorem backgroundDone_busyFlags : (backgroundDone u c).busyFlags = dropBit c.busyFlags u := rfl
@[simp] theorem backgroundDone_rewindFlags : (backgroundDone u c).rewindFlags = dropBit c.rewindFlags u := rfl
@[simp] theorem backgroundDone_currentUnit : (backgroundDone u c).currentUnit = c.currentUnit := rfl
@[simp] theorem backgroundDone_statusUnit : (backgroundDone u c).statusUnit = c.statusUnit := rfl
@[simp] theorem backgroundDone_delayCounter : (backgroundDone u c).delayCounter = c.delayCounter := rfl
@[simp] theorem backgroundDone_bgCounter : (backgroundDone u c).bgCounter = c.bgCounter := rfl
@[simp] theorem backgroundDone_recOpen : (backgroundDone u c).recOpen = c.recOpen := rfl

/-! ## `beginBackground`: R227, R276 -/

@[simp] theorem beginBackground_address : (beginBackground n b c).address = c.address := rfl
@[simp] theorem beginBackground_state : (beginBackground n b c).state = c.state := rfl
@[simp] theorem beginBackground_phase : (beginBackground n b c).phase = c.phase := rfl
@[simp] theorem beginBackground_selected : (beginBackground n b c).selected = c.selected := rfl
@[simp] theorem beginBackground_currentCommand : (beginBackground n b c).currentCommand = c.currentCommand := rfl
@[simp] theorem beginBackground_commandDone : (beginBackground n b c).commandDone = c.commandDone := rfl
@[simp] theorem beginBackground_chaining : (beginBackground n b c).chaining = c.chaining := rfl
@[simp] theorem beginBackground_dataByte : (beginBackground n b c).dataByte = c.dataByte := rfl
@[simp] theorem beginBackground_dataReady : (beginBackground n b c).dataReady = c.dataReady := rfl
@[simp] theorem beginBackground_dataEnd : (beginBackground n b c).dataEnd = c.dataEnd := rfl
@[simp] theorem beginBackground_status : (beginBackground n b c).status = c.status := rfl
@[simp] theorem beginBackground_senseBytes : (beginBackground n b c).senseBytes = c.senseBytes := rfl
@[simp] theorem beginBackground_senseIndex : (beginBackground n b c).senseIndex = c.senseIndex := rfl
@[simp] theorem beginBackground_pendingUnit : (beginBackground n b c).pendingUnit = c.pendingUnit := rfl
@[simp] theorem beginBackground_readyFlags : (beginBackground n b c).readyFlags = c.readyFlags := rfl
@[simp] theorem beginBackground_busyFlags :
    (beginBackground n b c).busyFlags =
      addBit c.busyFlags c.currentUnit := rfl
@[simp] theorem beginBackground_rewindFlags :
    (beginBackground n b c).rewindFlags =
      if b then addBit c.rewindFlags c.currentUnit else c.rewindFlags := rfl
@[simp] theorem beginBackground_currentUnit : (beginBackground n b c).currentUnit = c.currentUnit := rfl
@[simp] theorem beginBackground_statusUnit : (beginBackground n b c).statusUnit = c.statusUnit := rfl
@[simp] theorem beginBackground_delayCounter : (beginBackground n b c).delayCounter = c.delayCounter := rfl
@[simp] theorem beginBackground_bgCounter :
    (beginBackground n b c).bgCounter =
      if c.busyFlags = 0 then n else c.bgCounter := rfl
@[simp] theorem beginBackground_recOpen : (beginBackground n b c).recOpen = c.recOpen := rfl

/-! ## The contexts that claims name -/

@[simp] theorem working_address : (working s).address = s.ctx.address := rfl
@[simp] theorem working_state : (working s).state = s.ctx.state := rfl
@[simp] theorem working_phase : (working s).phase = .pNone := rfl
@[simp] theorem working_selected : (working s).selected = (s.ctx.selected && s.out.stay) := rfl
@[simp] theorem working_currentCommand : (working s).currentCommand = s.ctx.currentCommand := rfl
@[simp] theorem working_commandDone : (working s).commandDone = s.ctx.commandDone := rfl
@[simp] theorem working_chaining : (working s).chaining = s.ctx.chaining := rfl
@[simp] theorem working_dataByte : (working s).dataByte = s.ctx.dataByte := rfl
@[simp] theorem working_dataReady : (working s).dataReady = s.ctx.dataReady := rfl
@[simp] theorem working_dataEnd : (working s).dataEnd = s.ctx.dataEnd := rfl
@[simp] theorem working_status : (working s).status = 0x00 := rfl
@[simp] theorem working_senseBytes : (working s).senseBytes = s.ctx.senseBytes := rfl
@[simp] theorem working_senseIndex : (working s).senseIndex = s.ctx.senseIndex := rfl
@[simp] theorem working_pendingUnit : (working s).pendingUnit = s.ctx.pendingUnit := rfl
@[simp] theorem working_readyFlags : (working s).readyFlags = s.ctx.readyFlags := rfl
@[simp] theorem working_busyFlags : (working s).busyFlags = s.ctx.busyFlags := rfl
@[simp] theorem working_rewindFlags : (working s).rewindFlags = s.ctx.rewindFlags := rfl
@[simp] theorem working_currentUnit : (working s).currentUnit = s.ctx.currentUnit := rfl
@[simp] theorem working_statusUnit : (working s).statusUnit = s.ctx.statusUnit := rfl
@[simp] theorem working_delayCounter : (working s).delayCounter = s.ctx.delayCounter := rfl
@[simp] theorem working_bgCounter : (working s).bgCounter = s.ctx.bgCounter := rfl
@[simp] theorem working_recOpen : (working s).recOpen = s.ctx.recOpen := rfl

@[simp] theorem stepping_address : (stepping s).address = s.ctx.address := rfl
@[simp] theorem stepping_state : (stepping s).state = s.ctx.state := rfl
@[simp] theorem stepping_phase : (stepping s).phase = s.ctx.phase := rfl
@[simp] theorem stepping_selected : (stepping s).selected = (s.ctx.selected && s.out.stay) := rfl
@[simp] theorem stepping_currentCommand : (stepping s).currentCommand = s.ctx.currentCommand := rfl
@[simp] theorem stepping_commandDone : (stepping s).commandDone = s.ctx.commandDone := rfl
@[simp] theorem stepping_chaining : (stepping s).chaining = s.ctx.chaining := rfl
@[simp] theorem stepping_dataByte : (stepping s).dataByte = s.ctx.dataByte := rfl
@[simp] theorem stepping_dataReady : (stepping s).dataReady = s.ctx.dataReady := rfl
@[simp] theorem stepping_dataEnd : (stepping s).dataEnd = s.ctx.dataEnd := rfl
@[simp] theorem stepping_status : (stepping s).status = s.ctx.status := rfl
@[simp] theorem stepping_senseBytes : (stepping s).senseBytes = s.ctx.senseBytes := rfl
@[simp] theorem stepping_senseIndex : (stepping s).senseIndex = s.ctx.senseIndex := rfl
@[simp] theorem stepping_pendingUnit : (stepping s).pendingUnit = s.ctx.pendingUnit := rfl
@[simp] theorem stepping_readyFlags : (stepping s).readyFlags = s.ctx.readyFlags := rfl
@[simp] theorem stepping_busyFlags : (stepping s).busyFlags = s.ctx.busyFlags := rfl
@[simp] theorem stepping_rewindFlags : (stepping s).rewindFlags = s.ctx.rewindFlags := rfl
@[simp] theorem stepping_currentUnit : (stepping s).currentUnit = s.ctx.currentUnit := rfl
@[simp] theorem stepping_statusUnit : (stepping s).statusUnit = s.ctx.statusUnit := rfl
@[simp] theorem stepping_delayCounter : (stepping s).delayCounter = s.ctx.delayCounter := rfl
@[simp] theorem stepping_bgCounter : (stepping s).bgCounter = s.ctx.bgCounter := rfl
@[simp] theorem stepping_recOpen : (stepping s).recOpen = s.ctx.recOpen := rfl

/-! ## Sense bytes -/

@[simp] theorem orFirst_length (m : Byte) (bs : List Byte) : (orFirst m bs).length = bs.length := by
  cases bs <;> rfl

@[simp] theorem zeroBytes_length (bs : List Byte) : (zeroBytes bs).length = bs.length := by simp [zeroBytes]

/-- Zeroed sense bytes are all zero. -/
theorem zeroBytes_eq (bs : List Byte) : zeroBytes bs = List.replicate bs.length 0x00 := by
  simp [zeroBytes, List.map_const']

/-- `senseSet` keeps the number of sense bytes. -/
@[simp] theorem senseSet_length : (senseSet u mask c).senseBytes.length = c.senseBytes.length := by
  simp only [senseSet_senseBytes]; split <;> simp

/-! ## Masks -/

/-- `bit(u)` has bit `u` and no other (R72 (e)). -/
theorem bit_getLsbD (u i : Nat) : (bit u).getLsbD i = (decide (i < 16) && decide (i = u)) := by
  simp only [bit, BitVec.getLsbD_shiftLeft, BitVec.getLsbD_one]
  by_cases h : i = u
  · subst h; simp
  · rcases Nat.lt_or_ge i u with h1 | h1
    · simp [h1, h]
    · have : i - u ≠ 0 := by omega
      simp [this, h]

/-- `m & bit(u) != 0` says that bit `u` of the mask is set (R72 (e)). -/
theorem hasBit_eq (m : UnitMask) (u : Nat) : hasBit m u = m.getLsbD u := by
  rw [Bool.eq_iff_iff]
  simp only [hasBit, bne_iff_ne, ne_eq]
  constructor
  · intro h
    by_contra hn
    exact h (BitVec.eq_of_getLsbD_eq fun i hi => by
      by_cases h : i = u
      · subst h; simpa using fun h => absurd h hn
      · simp [bit_getLsbD, h])
  · intro h h0
    have h1 := congrArg (fun v => v.getLsbD u) h0
    have h2 : u < 16 := BitVec.lt_of_getLsbD h
    rw [BitVec.getLsbD_and, bit_getLsbD, h] at h1
    simp [h2] at h1

/-! ## Operations on the state -/

/-- `endData` in one update (R191, R204, R207, R210). -/
theorem endData_eq (x : Byte) (s : State) :
    endData x s = enterDataEnd (s.setCtx { s.ctx with dataEnd := true, status := s.ctx.status ||| x }) := rfl

/-- `endMotion` in one update (R249). -/
theorem endMotion_eq (s : State) :
    endMotion s = enterDataEnd (s.setCtx { s.ctx with status := s.ctx.status ||| 0x0C }) := rfl

/-- The byte is offered, or REQUEST is entered (R211). -/
theorem offerByte_eq (s : State) :
    offerByte s = s.setCtx
      (if s.ctx.selected then { s.ctx with state := .dataOut, phase := .pService } else { s.ctx with state := .request }) :=
  rfl

/-- A byte is asked for, or REQUEST is entered (R211). -/
theorem requestByte_eq (s : State) :
    requestByte s = s.setCtx
      (if s.ctx.selected then { s.ctx with state := .dataIn, phase := .pService } else { s.ctx with state := .request }) :=
  rfl

/-- The overrun draw takes one draw and records sense when it says so (R212). -/
theorem drawOverrun_eq (s : State) :
    drawOverrun s = s.useLate.setCtx (if s.nextLate then senseSet s.ctx.currentUnit OVERRUN s.ctx else s.ctx) := by
  unfold drawOverrun; split <;> rfl

/-- The common part of a start (R190, R192). -/
theorem beginWork_eq (s : State) : beginWork s.out s = s.setCtx (working s) := rfl

/-- A step in OPERATE with the delay run out is the device step (R200). -/
theorem operate_device (device : State → State) (h : s.ctx.delayCounter = 0) :
    operate s.out device s = device (s.setCtx (stepping s)) := by
  unfold operate; exact if_neg (by simp [keepBus, h])

/-- A step in OPERATE with a delay running counts it down (R200). -/
theorem operate_delay (device : State → State) (h : 0 < s.ctx.delayCounter) :
    operate s.out device s = s.setCtx { stepping s with delayCounter := s.ctx.delayCounter - 1 } := if_pos h

/-- `skip` makes its calls whatever the rest of the context is (R240). -/
theorem skipCalls_setCtx (start : CodecCall) (s : State) (c : Ctx) (h : c.currentUnit = s.ctx.currentUnit) :
    skipCalls start (s.setCtx c) = (skipCalls start s).setCtx c := by
  simp only [skipCalls, State.setCtx_nextAnswer, State.setCtx_ctx, h]; cases s.nextAnswer.result <;> simp

/-- `skip` has the same answer whatever the rest of the context is (R240). -/
theorem skipResult_setCtx (start : CodecCall) (s : State) (c : Ctx) (h : c.currentUnit = s.ctx.currentUnit) :
    skipResult start (s.setCtx c) = skipResult start s := by
  simp only [skipResult, State.setCtx_nextAnswer, State.setCtx_ctx, h, State.setCtx_noteCall]

@[simp] theorem skipCalls_params (start : CodecCall) (s : State) : (skipCalls start s).params = s.params := by
  simp only [skipCalls]; cases s.nextAnswer.result <;> rfl

@[simp] theorem skipCalls_ctx (start : CodecCall) (s : State) : (skipCalls start s).ctx = s.ctx := by
  simp only [skipCalls]; cases s.nextAnswer.result <;> rfl

/-! ## What stays outside the current context -/

theorem OnlyCurrent.refl (s : State) : OnlyCurrent s s :=
  ⟨rfl, rfl, rfl, rfl, rfl, rfl, rfl, List.suffix_refl _, List.suffix_refl _, List.suffix_refl _, Nat.le_refl _,
    List.suffix_refl _⟩

theorem OnlyCurrent.trans {s t v : State} (h : OnlyCurrent s t) (k : OnlyCurrent t v) : OnlyCurrent s v :=
  ⟨k.params.trans h.params, k.before.trans h.before, k.after.trans h.after, k.entry.trans h.entry,
    k.address.trans h.address, k.lines.trans h.lines, k.cycle.trans h.cycle, k.answers.trans h.answers,
    k.conds.trans h.conds, k.lates.trans h.lates, h.drawn.trans k.drawn, h.calls.trans k.calls⟩

/-- A write of the current context that keeps the address. -/
theorem OnlyCurrent.setCtx (s : State) (c : Ctx) (h : c.address = s.ctx.address) : OnlyCurrent s (s.setCtx c) :=
  ⟨rfl, rfl, rfl, rfl, h, rfl, rfl, List.suffix_refl _, List.suffix_refl _, List.suffix_refl _, Nat.le_refl _,
    List.suffix_refl _⟩

theorem OnlyCurrent.noteCall (s : State) (u : Nat) (k : CodecCall) : OnlyCurrent s (s.noteCall u k) :=
  ⟨rfl, rfl, rfl, rfl, rfl, rfl, rfl, List.tail_suffix _, List.suffix_refl _, List.suffix_refl _, Nat.le_succ _,
    List.suffix_cons _ _⟩

theorem OnlyCurrent.useCond (s : State) : OnlyCurrent s s.useCond :=
  ⟨rfl, rfl, rfl, rfl, rfl, rfl, rfl, List.suffix_refl _, List.tail_suffix _, List.suffix_refl _, Nat.le_succ _,
    List.suffix_refl _⟩

theorem OnlyCurrent.useLate (s : State) : OnlyCurrent s s.useLate :=
  ⟨rfl, rfl, rfl, rfl, rfl, rfl, rfl, List.suffix_refl _, List.suffix_refl _, List.tail_suffix _, Nat.le_succ _,
    List.suffix_refl _⟩

end Sys2Proof.Machine
end

