-- ==== Sys2Proof/Laws/Ending.lean ====
section
/-! SUPPORT. The operations that end and conclude an operation, each as one update of the context: the parts of `enterDataEnd`
(R226 to R229), the end-accepted rule (R274), and the sub-unit that the word on bus-out addresses (R97, R303). -/

namespace Sys2Proof.Machine

variable {u n : Nat} {c : Ctx} {o : OutTags} {s : State}

/-- R226: unit-check when sense is pending for the current sub-unit, except in SNS. -/
theorem addUnitCheck_eq (c : Ctx) :
    addUnitCheck c =
      { c with
        status :=
          if hasBit c.pendingUnit c.currentUnit ∧ c.currentCommand ≠ 0x04 then c.status ||| 0x02 else c.status } := by
  unfold addUnitCheck; split <;> rfl

/-- R227: a status without device-end marks the sub-unit busy. -/
theorem withholdDeviceEnd_eq (n : Nat) (c : Ctx) :
    withholdDeviceEnd n c =
      { c with
        bgCounter := if c.status &&& DE = 0 ∧ c.busyFlags = 0 then n else c.bgCounter
        busyFlags := if c.status &&& DE = 0 then c.busyFlags ||| bit c.currentUnit else c.busyFlags } := by
  by_cases h : c.status &&& DE = 0
  · simp only [withholdDeviceEnd, h, if_true, true_and]; rfl
  · simp only [withholdDeviceEnd, h, if_false, false_and]

/-- R228, R229: the status is presented when the bus is held, and waits for it when not. -/
theorem presentEnding_eq (c : Ctx) :
    presentEnding c =
      { c with
        state := if c.selected then .ending else .dataEnd
        phase := if c.selected then .pStatus else .pNone } := by
  cases h : c.selected <;> simp [presentEnding, h]

/-- R275 in one update. -/
theorem clearSense_eq (c : Ctx) :
    clearSense c =
      { c with
        senseBytes :=
          if c.currentCommand = 0x04 ∧ c.pendingUnit = bit c.currentUnit then zeroBytes c.senseBytes else c.senseBytes
        pendingUnit :=
          if c.currentCommand = 0x04 ∧ c.pendingUnit = bit c.currentUnit then 0 else c.pendingUnit } := by
  unfold clearSense; split <;> rfl

/-- R276 in one update. -/
theorem startRewind_eq (n : Nat) (c : Ctx) :
    startRewind n c =
      { c with
        bgCounter :=
          if (c.currentCommand = 0x07 ∨ c.currentCommand = 0x0F) ∧ c.busyFlags = 0 then n else c.bgCounter
        busyFlags :=
          if c.currentCommand = 0x07 ∨ c.currentCommand = 0x0F then c.busyFlags ||| bit c.currentUnit else c.busyFlags
        rewindFlags :=
          if c.currentCommand = 0x07 ∨ c.currentCommand = 0x0F then c.rewindFlags ||| bit c.currentUnit
          else c.rewindFlags } := by
  by_cases h : c.currentCommand = 0x07 ∨ c.currentCommand = 0x0F
  · simp only [startRewind, h, if_true, true_and]; rfl
  · simp only [startRewind, h, if_false, false_and]

/-- The end-accepted rule R274 leaves the context that `concludedCtx` writes out. -/
theorem endAcceptedCtx_eq (n : Nat) (o : OutTags) (c : Ctx) : endAcceptedCtx n o c = concludedCtx n o.stay c := by
  simp only [endAcceptedCtx, clearSense_eq, startRewind_eq, chainOrRest, concludedCtx]
  cases h : (c.chaining && c.selected && o.stay)
  · simp only [Bool.false_eq_true, if_false]; rfl
  · simp only [Bool.and_eq_true] at h
    simp only [h.1.1, h.1.2, if_true]; rfl

/-- End-accepted on the state (R274). -/
theorem endAccepted_eq (o : OutTags) (s : State) :
    endAccepted o s = s.setCtx (concludedCtx s.params.dBg o.stay s.ctx) :=
  congrArg s.setCtx (endAcceptedCtx_eq _ _ _)

/-- Rest, in the terms of the statements (R279). -/
theorem toRest_eq (c : Ctx) : toRest c = restingCtx c := rfl

/-- The word on bus-out addresses sub-unit `u` of this controller just when it has good parity and the scanner answers
this controller and `u` (R97, R301, R303). -/
theorem addressedUnit_iff (s : State) (u : Nat) :
    s.addressedUnit = some u ↔
      parityOK s.busOut = true ∧ scan s.registry (busByte s.busOut) = some (s.index, u) := by
  unfold State.addressedUnit
  split <;> rename_i h
  · simp only [h, true_and]
    split <;> rename_i hs
    · split <;> rename_i hi
      · subst hi; simp [hs]
      · simp [hs, hi]
    · simp [hs]
  · simp [h]

end Sys2Proof.Machine
end

