-- ==== Sys2Proof/Laws/Frame.lean ====
section
/-! SUPPORT. Each operation on the state writes only the current controller's context and takes from the environment only by
counting and recording (`OnlyCurrent`): one lemma for each operation, carried along from the state a step began with. -/

namespace Sys2Proof.Machine

variable {s t : State} {u n : Nat} {x : Byte} {o : OutTags} {k : CodecCall} {c : Ctx} {cmd : Byte}

/-! ## The address is kept -/

theorem addUnitCheck_address (c : Ctx) : (addUnitCheck c).address = c.address := by rw [addUnitCheck_eq]

theorem withholdDeviceEnd_address (n : Nat) (c : Ctx) : (withholdDeviceEnd n c).address = c.address := by
  rw [withholdDeviceEnd_eq]

theorem presentEnding_address (c : Ctx) : (presentEnding c).address = c.address := by rw [presentEnding_eq]

theorem endAcceptedCtx_address (n : Nat) (o : OutTags) (c : Ctx) : (endAcceptedCtx n o c).address = c.address := by
  rw [endAcceptedCtx_eq]; rfl

theorem captureTable_address (cmd : Byte) (w : BusWord) (d : DevCond) (c : Ctx) :
    (captureTable cmd w d c).address = c.address := by
  unfold captureTable
  repeat' split
  all_goals rfl

/-! ## Shared operations -/

theorem OnlyCurrent.thenCtx (h : OnlyCurrent s t) (f : Ctx → Ctx) (hf : (f t.ctx).address = t.ctx.address) :
    OnlyCurrent s (t.mapCtx f) :=
  h.trans (.setCtx t _ hf)

theorem OnlyCurrent.thenCall (h : OnlyCurrent s t) (u : Nat) (k : CodecCall) : OnlyCurrent s (t.noteCall u k) :=
  h.trans (.noteCall t u k)

theorem closeRecord_frame (h : OnlyCurrent s t) : OnlyCurrent s (closeRecord t) := by
  unfold closeRecord
  split
  · have hc := (h.thenCall t.ctx.currentUnit .finishRecord).thenCtx (fun c => { c with recOpen := false }) rfl
    dsimp only
    split
    · exact hc.thenCtx _ rfl
    · split
      · exact hc.thenCtx _ rfl
      · exact hc
    · exact hc
    · exact hc
  · exact h

theorem enterDataEnd_frame (h : OnlyCurrent s t) : OnlyCurrent s (enterDataEnd t) :=
  (closeRecord_frame (h.thenCtx _ rfl)).thenCtx _
    (by rw [presentEnding_address, withholdDeviceEnd_address, addUnitCheck_address])

theorem endData_frame (h : OnlyCurrent s t) : OnlyCurrent s (endData x t) := enterDataEnd_frame (h.thenCtx _ rfl)

theorem endMotion_frame (h : OnlyCurrent s t) : OnlyCurrent s (endMotion t) := enterDataEnd_frame (h.thenCtx _ rfl)

theorem endAccepted_frame (h : OnlyCurrent s t) : OnlyCurrent s (endAccepted o t) :=
  h.thenCtx _ (endAcceptedCtx_address _ _ _)

theorem offerByte_frame (h : OnlyCurrent s t) : OnlyCurrent s (offerByte t) := h.thenCtx _ (by split <;> rfl)

theorem requestByte_frame (h : OnlyCurrent s t) : OnlyCurrent s (requestByte t) := h.thenCtx _ (by split <;> rfl)

theorem drawOverrun_frame (h : OnlyCurrent s t) : OnlyCurrent s (drawOverrun t) := by
  unfold drawOverrun
  split
  · exact (h.trans (.useLate t)).thenCtx _ rfl
  · exact h.trans (.useLate t)

theorem skipCalls_frame (h : OnlyCurrent s t) : OnlyCurrent s (skipCalls k t) := by
  unfold skipCalls
  dsimp only
  split
  · exact (h.thenCall _ _).thenCall _ _
  all_goals exact h.thenCall _ _

theorem capture_frame (h : OnlyCurrent s t) : OnlyCurrent s (capture cmd t) :=
  (h.trans (.useCond t)).thenCtx _ (captureTable_address _ _ _ _)

theorem operate_frame {device : State → State} (h : OnlyCurrent s t)
    (hd : ∀ v, OnlyCurrent s v → OnlyCurrent s (device v)) : OnlyCurrent s (operate o device t) := by
  unfold operate
  dsimp only
  split
  · exact (h.thenCtx _ rfl).thenCtx _ rfl
  · exact hd _ (h.thenCtx _ rfl)

/-! ## The starts of a command's work -/

theorem startWr_frame (h : OnlyCurrent s t) : OnlyCurrent s (startWr t) := by
  unfold startWr startWr.openWrite
  dsimp only
  split
  · exact endData_frame ((h.thenCall _ _).thenCtx _ rfl)
  · exact ((h.thenCall _ _).thenCtx _ rfl).thenCtx _ (by split <;> rfl)
  · exact (h.thenCall _ _).thenCtx _ (by split <;> rfl)
  · exact (h.thenCall _ _).thenCtx _ (by split <;> rfl)

theorem startRd_frame (h : OnlyCurrent s t) : OnlyCurrent s (startRd t) := by
  unfold startRd openRead
  dsimp only
  split
  · exact (h.thenCall _ _).thenCtx _ rfl
  · exact endData_frame (h.thenCall _ _)
  all_goals exact endData_frame ((h.thenCall _ _).thenCtx _ rfl)

theorem startRdb_frame (h : OnlyCurrent s t) : OnlyCurrent s (startRdb t) := by
  unfold startRdb openRead
  dsimp only
  split
  · exact (h.thenCall _ _).thenCtx _ rfl
  · exact endData_frame (h.thenCall _ _)
  all_goals exact endData_frame ((h.thenCall _ _).thenCtx _ rfl)

theorem startSns_frame (h : OnlyCurrent s t) : OnlyCurrent s (startSns t) := h.thenCtx _ rfl

theorem startMotion_frame (h : OnlyCurrent s t) : OnlyCurrent s (startMotion t) := h.thenCtx _ rfl

/-! ## The device steps -/

theorem deviceWr_frame (h : OnlyCurrent s t) : OnlyCurrent s (deviceWr t) := by
  unfold deviceWr
  split
  · have hw := drawOverrun_frame
      ((h.thenCall t.ctx.currentUnit (.writeFrame t.ctx.dataByte)).thenCtx (fun c => { c with dataReady := false }) rfl)
    dsimp only
    split
    · exact endData_frame (hw.thenCtx _ rfl)
    · exact requestByte_frame (hw.thenCtx _ rfl)
    · exact requestByte_frame hw
    · exact requestByte_frame hw
  · exact requestByte_frame h

theorem deviceRead_frame (h : OnlyCurrent s t) : OnlyCurrent s (deviceRead t) := by
  unfold deviceRead
  split
  · exact offerByte_frame h
  · dsimp only
    split
    · exact offerByte_frame (drawOverrun_frame ((h.thenCall _ _).thenCtx _ rfl))
    · exact endData_frame (h.thenCall _ _)
    all_goals exact endData_frame ((h.thenCall _ _).thenCtx _ rfl)

theorem fetchSense_frame (h : OnlyCurrent s t) : OnlyCurrent s (fetchSense t) := by
  unfold fetchSense
  dsimp only
  split
  · exact (h.trans (.useCond t)).thenCtx _ rfl
  · exact h.thenCtx _ rfl

theorem deviceSns_frame (h : OnlyCurrent s t) : OnlyCurrent s (deviceSns t) := by
  unfold deviceSns
  split
  · exact offerByte_frame h
  · split
    · exact offerByte_frame (fetchSense_frame h)
    · exact endData_frame h

theorem deviceWtm_frame (h : OnlyCurrent s t) : OnlyCurrent s (deviceWtm t) := by
  unfold deviceWtm
  dsimp only
  split <;> first | exact endMotion_frame (h.thenCall _ _) | exact endMotion_frame ((h.thenCall _ _).thenCtx _ rfl)

theorem deviceBsb_frame (h : OnlyCurrent s t) : OnlyCurrent s (deviceBsb t) := by
  unfold deviceBsb
  dsimp only
  split <;> first | exact endMotion_frame (skipCalls_frame h) | exact endMotion_frame ((skipCalls_frame h).thenCtx _ rfl)

theorem deviceFsb_frame (h : OnlyCurrent s t) : OnlyCurrent s (deviceFsb t) := by
  unfold deviceFsb
  dsimp only
  split <;> first | exact endMotion_frame (skipCalls_frame h) | exact endMotion_frame ((skipCalls_frame h).thenCtx _ rfl)

theorem deviceBsf_frame (h : OnlyCurrent s t) : OnlyCurrent s (deviceBsf t) := by
  unfold deviceBsf nextRecord
  dsimp only
  split
  · exact (skipCalls_frame h).thenCtx _ rfl
  · exact endMotion_frame (skipCalls_frame h)
  all_goals exact endMotion_frame ((skipCalls_frame h).thenCtx _ rfl)

theorem deviceFsf_frame (h : OnlyCurrent s t) : OnlyCurrent s (deviceFsf t) := by
  unfold deviceFsf nextRecord
  dsimp only
  split
  · exact (skipCalls_frame h).thenCtx _ rfl
  · exact endMotion_frame (skipCalls_frame h)
  all_goals exact endMotion_frame ((skipCalls_frame h).thenCtx _ rfl)

/-- The device step of whatever command is current (R201). -/
theorem deviceOf_frame (cmd : Byte) (h : OnlyCurrent s t) : OnlyCurrent s (deviceOf cmd t) := by
  unfold deviceOf
  generalize instrOfByte cmd = i
  cases i <;> first
    | exact deviceWr_frame h
    | exact deviceRead_frame h
    | exact deviceSns_frame h
    | exact endMotion_frame h
    | exact deviceWtm_frame h
    | exact deviceBsb_frame h
    | exact deviceBsf_frame h
    | exact deviceFsb_frame h
    | exact deviceFsf_frame h
    | exact h

end Sys2Proof.Machine
end

