-- ==== Sys2Proof/Laws/PerInstr.lean ====
section
/-! SUPPORT. Statements for every instruction, made one constructor at a time: the word of a well-formed instruction has the
`match` and `mask` of its row in spec/opcode_table.json. -/

namespace Sys2Proof.Laws

/-- A row of the opcode table: its format, and the `match` and `mask` of its encoding. -/
structure Row where
  isCommand : Bool
  pattern : Nat
  mask : Nat

/-- The row of an instruction in spec/opcode_table.json. -/
def rowOf : Instr → Row
  | .tio => ⟨true, 0x00, 0xFF⟩
  | .wr => ⟨true, 0x01, 0xFF⟩
  | .rd => ⟨true, 0x02, 0xFF⟩
  | .ctl _ => ⟨true, 0x03, 0x07⟩
  | .sns => ⟨true, 0x04, 0xFF⟩
  | .rdb => ⟨true, 0x0C, 0xFF⟩
  | .rew => ⟨true, 0x07, 0xFF⟩
  | .run => ⟨true, 0x0F, 0xFF⟩
  | .erg => ⟨true, 0x17, 0xFF⟩
  | .wtm => ⟨true, 0x1F, 0xFF⟩
  | .bsb => ⟨true, 0x27, 0xFF⟩
  | .bsf => ⟨true, 0x2F, 0xFF⟩
  | .fsb => ⟨true, 0x37, 0xFF⟩
  | .fsf => ⟨true, 0x3F, 0xFF⟩
  | .illegal _ => ⟨true, 0x00, 0x00⟩
  | .ereset _ _ _ _ _ _ => ⟨false, 0x00, 0x01⟩
  | .ehalt _ _ _ _ => ⟨false, 0x09, 0x0B⟩
  | .esel _ => ⟨false, 0x0F, 0x3F⟩
  | .echain _ => ⟨false, 0x0F, 0x3F⟩
  | .epoll _ => ⟨false, 0x07, 0x3F⟩
  | .eabandon _ _ _ _ => ⟨false, 0x01, 0x0B⟩
  | .eadrop _ _ _ _ _ => ⟨false, 0x01, 0x09⟩
  | .ecmd _ _ _ _ => ⟨false, 0x11, 0x31⟩
  | .ecmddrop _ _ _ _ _ => ⟨false, 0x01, 0x11⟩
  | .eaccept _ _ _ _ => ⟨false, 0x21, 0x31⟩
  | .estack _ _ _ _ => ⟨false, 0x11, 0x31⟩
  | .estop _ _ _ _ => ⟨false, 0x11, 0x31⟩
  | .eackdrop _ _ _ _ => ⟨false, 0x01, 0x31⟩
  | .ebusyendSel0 _ _ _ _ _ => ⟨false, 0x01, 0x03⟩
  | .ebusyendAdr0 _ _ _ _ _ => ⟨false, 0x01, 0x09⟩
  | .hold _ => ⟨false, 0x00, 0x00⟩

/-- A word matches a row: it has the row's format, and its bits under the mask are the row's. -/
def matchesRow (r : Row) : Word → Bool
  | .command c => r.isCommand && c.toNat &&& r.mask == r.pattern
  | .tags w => !r.isCommand && w.toNat &&& r.mask == r.pattern

/-- The word of the instruction, when it is well formed, matches its row (R84, R95). -/
def RowPattern.Statement (i : Instr) : Prop := wellFormed i = true → matchesRow (rowOf i) (encode i) = true

theorem RowPattern.tio : RowPattern.Statement .tio := by
  unfold RowPattern.Statement; decide

theorem RowPattern.wr : RowPattern.Statement .wr := by
  unfold RowPattern.Statement; decide

theorem RowPattern.rd : RowPattern.Statement .rd := by
  unfold RowPattern.Statement; decide

theorem RowPattern.ctl (mod : BitVec 5) : RowPattern.Statement (.ctl mod) := by
  revert mod; unfold RowPattern.Statement; decide

theorem RowPattern.sns : RowPattern.Statement .sns := by
  unfold RowPattern.Statement; decide

theorem RowPattern.rdb : RowPattern.Statement .rdb := by
  unfold RowPattern.Statement; decide

theorem RowPattern.rew : RowPattern.Statement .rew := by
  unfold RowPattern.Statement; decide

theorem RowPattern.run : RowPattern.Statement .run := by
  unfold RowPattern.Statement; decide

theorem RowPattern.erg : RowPattern.Statement .erg := by
  unfold RowPattern.Statement; decide

theorem RowPattern.wtm : RowPattern.Statement .wtm := by
  unfold RowPattern.Statement; decide

theorem RowPattern.bsb : RowPattern.Statement .bsb := by
  unfold RowPattern.Statement; decide

theorem RowPattern.bsf : RowPattern.Statement .bsf := by
  unfold RowPattern.Statement; decide

theorem RowPattern.fsb : RowPattern.Statement .fsb := by
  unfold RowPattern.Statement; decide

theorem RowPattern.fsf : RowPattern.Statement .fsf := by
  unfold RowPattern.Statement; decide

theorem RowPattern.illegal (c : Byte) : RowPattern.Statement (.illegal c) := by
  intro _; simp [matchesRow, rowOf, encode, byteOfInstr]

theorem RowPattern.ereset (sel : Bool) (hld : Bool) (adr : Bool) (cmd : Bool) (srv : Bool) (sup : Bool) : RowPattern.Statement (.ereset sel hld adr cmd srv sup) := by
  revert sel hld adr cmd srv sup; unfold RowPattern.Statement; decide

theorem RowPattern.ehalt (hld : Bool) (cmd : Bool) (srv : Bool) (sup : Bool) : RowPattern.Statement (.ehalt hld cmd srv sup) := by
  revert hld cmd srv sup; unfold RowPattern.Statement; decide

theorem RowPattern.esel (sup : Bool) : RowPattern.Statement (.esel sup) := by
  revert sup; unfold RowPattern.Statement; decide

theorem RowPattern.echain (sup : Bool) : RowPattern.Statement (.echain sup) := by
  revert sup; unfold RowPattern.Statement; decide

theorem RowPattern.epoll (sup : Bool) : RowPattern.Statement (.epoll sup) := by
  revert sup; unfold RowPattern.Statement; decide

theorem RowPattern.eabandon (hld : Bool) (cmd : Bool) (srv : Bool) (sup : Bool) : RowPattern.Statement (.eabandon hld cmd srv sup) := by
  revert hld cmd srv sup; unfold RowPattern.Statement; decide

theorem RowPattern.eadrop (sel : Bool) (hld : Bool) (cmd : Bool) (srv : Bool) (sup : Bool) : RowPattern.Statement (.eadrop sel hld cmd srv sup) := by
  revert sel hld cmd srv sup; unfold RowPattern.Statement; decide

theorem RowPattern.ecmd (sel : Bool) (hld : Bool) (adr : Bool) (sup : Bool) : RowPattern.Statement (.ecmd sel hld adr sup) := by
  revert sel hld adr sup; unfold RowPattern.Statement; decide

theorem RowPattern.ecmddrop (sel : Bool) (hld : Bool) (adr : Bool) (srv : Bool) (sup : Bool) : RowPattern.Statement (.ecmddrop sel hld adr srv sup) := by
  revert sel hld adr srv sup; unfold RowPattern.Statement; decide

theorem RowPattern.eaccept (sel : Bool) (hld : Bool) (adr : Bool) (sup : Bool) : RowPattern.Statement (.eaccept sel hld adr sup) := by
  revert sel hld adr sup; unfold RowPattern.Statement; decide

theorem RowPattern.estack (sel : Bool) (hld : Bool) (adr : Bool) (sup : Bool) : RowPattern.Statement (.estack sel hld adr sup) := by
  revert sel hld adr sup; unfold RowPattern.Statement; decide

theorem RowPattern.estop (sel : Bool) (hld : Bool) (adr : Bool) (sup : Bool) : RowPattern.Statement (.estop sel hld adr sup) := by
  revert sel hld adr sup; unfold RowPattern.Statement; decide

theorem RowPattern.eackdrop (sel : Bool) (hld : Bool) (adr : Bool) (sup : Bool) : RowPattern.Statement (.eackdrop sel hld adr sup) := by
  revert sel hld adr sup; unfold RowPattern.Statement; decide

theorem RowPattern.ebusyendSel0 (hld : Bool) (adr : Bool) (cmd : Bool) (srv : Bool) (sup : Bool) : RowPattern.Statement (.ebusyendSel0 hld adr cmd srv sup) := by
  revert hld adr cmd srv sup; unfold RowPattern.Statement; decide

theorem RowPattern.ebusyendAdr0 (sel : Bool) (hld : Bool) (cmd : Bool) (srv : Bool) (sup : Bool) : RowPattern.Statement (.ebusyendAdr0 sel hld cmd srv sup) := by
  revert sel hld cmd srv sup; unfold RowPattern.Statement; decide

theorem RowPattern.hold (o : OutTags) : RowPattern.Statement (.hold o) := by
  intro _; simp [matchesRow, rowOf, encode, byteOfInstr, tagsOfInstr]

end Sys2Proof.Laws
end

