-- ==== Sys2Proof/Tests/Slice0.lean ====
section
/-! SUPPORT. The model's own tests: the well-formedness checks refuse an ill-formed term each; a word written out from
spec/30_encoding.md for every constructor decodes to it; one step of each instruction against spec/95_test_vectors.md or a
calculation by hand from the rules; and for each statement with hypotheses a state and operands that meet them. -/

set_option maxRecDepth 20000

namespace Sys2Proof.Tests

open Sys2Proof Sys2Proof.Machine

/-! ## Helpers -/

/-- A registry entry with two sub-units at 0x80. -/
def entry : RegEntry := ⟨0x80, 2⟩

/-- The context of that controller at attach. -/
def idleCtx : Ctx := Ctx.attach entry 6

/-- A machine with that one controller in a given context, one line of the channel, and what the environment answers. -/
def machine (c : Ctx) (o : OutTags) (w : BusWord) (as : List CodecAnswer) (ds : List DevCond) (ls : List Bool) : State where
  params := Params.default
  before := []
  cur := ⟨entry, c⟩
  after := []
  env := { Env.empty with lines := [⟨o, w⟩], answers := as, conds := ds, lates := ls }

/-- The machine with nothing to draw. -/
def plain (c : Ctx) (o : OutTags) (w : BusWord) : State := machine c o w [] [] []

/-- A value read from the state after one step. -/
def after {α : Type} (s : State) (f : State → α) : Option α :=
  match step s with
  | .next t => some (f t)
  | .fault _ => none
  | .refused _ => none

/-- A value read from the state after one instruction. -/
def ran {α : Type} (i : Instr) (s : State) (f : State → α) : Option α :=
  match exec i s with
  | .next t => some (f t)
  | .fault _ => none
  | .refused _ => none

/-- Attached, writable, past the load point. -/
def onTape : DevCond := ⟨true, false, false⟩
/-- Attached, writable, at the load point. -/
def atStart : DevCond := ⟨true, false, true⟩
/-- Attached, read-only. -/
def locked : DevCond := ⟨true, true, false⟩
/-- Not attached. -/
def detached : DevCond := ⟨false, false, false⟩

/-- Selected, with the address on bus-in. -/
def addressed : Ctx := { idleCtx with state := .select, phase := .pAddrIn, selected := true }

/-- A command byte on bus-out for that controller. -/
def capturing (c : Byte) (d : DevCond) : State := machine addressed tagsCommand (busWord c) [] [d] []

/-- The acknowledge of the initial status of a command with work. -/
def acked (c : Byte) : Ctx :=
  { idleCtx with
    state := .initStatus, phase := .pStatusAck, selected := true, currentCommand := c, commandDone := false }

/-- The acknowledge has dropped, with `stay`; the codec answers `r`. -/
def starting (c : Byte) (r : CodecResult) : State := machine (acked c) tagsHeld dontCare [⟨r, 0x00⟩] [] []

/-- A command at work on a held bus. -/
def atWork (c : Byte) : Ctx :=
  { idleCtx with state := .operate, selected := true, currentCommand := c, commandDone := false }

/-- Its device step, with `stay`; the codec answers `rs`, no overrun. -/
def stepDue (c : Byte) (rs : List CodecAnswer) : State := machine (atWork c) tagsHeld dontCare rs [onTape] [false]

/-- Answers without a byte. -/
def okay : CodecAnswer := ⟨.ok, 0x00⟩
/-- Answers without a byte. -/
def mark : CodecAnswer := ⟨.markHit, 0x00⟩
/-- Answers without a byte. -/
def ended : CodecAnswer := ⟨.endOfMedium, 0x00⟩
/-- Answers without a byte. -/
def failed : CodecAnswer := ⟨.error, 0x00⟩

/-- The status, sense byte 0, current command and protocol state after a step. -/
def outcome (s : State) : Option (Byte × Byte × Byte × CState) :=
  after s fun t => (t.ctx.status, t.ctx.senseBytes.headD 0xFF, t.ctx.currentCommand, t.ctx.state)

/-- The protocol state, phase and `selected` after a step. -/
def place (s : State) : Option (CState × Phase × Bool) := after s fun t => (t.ctx.state, t.ctx.phase, t.ctx.selected)

/-- The codec calls a step makes, in order. -/
def calls (s : State) : Option (List CodecCall) := after s fun t => (t.env.calls.map CallRecord.call).reverse

/-! ## Well-formedness -/

theorem smoke_illegal_of_a_legal_byte : wellFormed (.illegal 0x02) = false := by decide
theorem smoke_eadrop_with_select_down : wellFormed (.eadrop false true false false false) = false := by decide
theorem smoke_ebusyend_adr0_with_select_down : wellFormed (.ebusyendAdr0 false true false false false) = false := by decide
theorem smoke_hold_with_operational_down :
    wellFormed (.hold ⟨false, false, false, false, false, false, false⟩) = false := by decide

/-! ## Words written out from the encoding tables (R83, R84, R93, R95) -/

theorem decode_commands :
    instrOfByte 0b00000000 = .tio ∧ instrOfByte 0b00000001 = .wr ∧ instrOfByte 0b00000010 = .rd ∧
      instrOfByte 0b11111011 = .ctl 0b11111 ∧ instrOfByte 0b00000100 = .sns ∧ instrOfByte 0b00001100 = .rdb := by decide
theorem decode_motion :
    instrOfByte 0b00000111 = .rew ∧ instrOfByte 0b00001111 = .run ∧ instrOfByte 0b00010111 = .erg ∧
      instrOfByte 0b00011111 = .wtm ∧ instrOfByte 0b00100111 = .bsb ∧ instrOfByte 0b00101111 = .bsf ∧
      instrOfByte 0b00110111 = .fsb ∧ instrOfByte 0b00111111 = .fsf := by decide
/-- The illegal bytes of spec/95_test_vectors.md B1. -/
theorem decode_illegal :
    ∀ c ∈ ([0x14, 0x47, 0x05, 0x06, 0x08, 0x09, 0x0A, 0xFF] : List Byte), instrOfByte c = .illegal c := by decide

/-- A context: the phase, and whether the controller is selected; the bus is free and the address its own. -/
def inPhase (p : Phase) (sel : Bool) : Qual := ⟨p, sel, false, true, true, false⟩

theorem decode_reset_and_halt :
    decode (inPhase .pStatus true) (.tags 0b1111110) = .ereset true true true true true true ∧
      decode (inPhase .pService true) (.tags 0b0001001) = .ehalt false false false false := by decide
theorem decode_selection :
    decode (inPhase .pNone false) (.tags 0b1001111) = .esel true ∧
      decode ⟨.pNone, true, true, true, true, false⟩ (.tags 0b0001111) = .echain false ∧
      decode (inPhase .pReq false) (.tags 0b0000111) = .epoll false ∧
      decode (inPhase .pAddrWait true) (.tags 0b0000101) = .eabandon true false false false ∧
      decode (inPhase .pAddrWait true) (.tags 0b0000111) = .eadrop true true false false false := by decide
theorem decode_responses :
    decode (inPhase .pAddrIn true) (.tags 0b0010111) = .ecmd true true false false ∧
      decode (inPhase .pCmdWait true) (.tags 0b0000111) = .ecmddrop true true false false false ∧
      decode (inPhase .pStatus true) (.tags 0b1100111) = .eaccept true true false true ∧
      decode (inPhase .pStatus true) (.tags 0b1010111) = .estack true true false true ∧
      decode (inPhase .pService true) (.tags 0b0010111) = .estop true true false false ∧
      decode (inPhase .pServiceAck true) (.tags 0b0000111) = .eackdrop true true false false := by decide
theorem decode_busy_and_hold :
    decode (inPhase .pBusy false) (.tags 0b0001001) = .ebusyendSel0 false true false false false ∧
      decode (inPhase .pBusy false) (.tags 0b0000111) = .ebusyendAdr0 true true false false false ∧
      decode (inPhase .pBusy false) (.tags 0b0001111) = .hold ⟨true, true, true, true, false, false, false⟩ := by decide

/-- Command-Out and Service-Out together are no event for a presented status (R101, R102). -/
theorem decode_both_responses_hold :
    decode (inPhase .pStatus true) (.tags 0b0110111) = .hold ⟨true, true, true, false, true, true, false⟩ := by decide

/-- A word of the opcode table is the first instruction after reset: a command byte, and a tag pattern. -/
theorem table_words_run :
    (State.reset.withFetchWord 8 0x0C).current = .rdb ∧ (State.reset.withFetchWord 7 0x0F).current = .esel false := by
  decide

/-! ## Pure functions (spec/95_test_vectors.md B1, B2) -/

theorem test_parity_vectors :
    busWord 0x00 = 0x100 ∧ busWord 0x01 = 0x001 ∧ busWord 0x03 = 0x103 ∧ busWord 0x80 = 0x080 ∧ busWord 0x0C = 0x10C ∧
      busWord 0xFF = 0x1FF ∧ parityOK 0x180 = false ∧ parityOK 0x000 = false ∧ badWord 0x80 = 0x180 := by decide
theorem test_composeStatus_vectors :
    composeStatus [CE, DE, UC] = 0x0E ∧ composeStatus [CE, DE, UE] = 0x0D ∧ composeStatus [DE, BUSY] = 0x14 ∧
      composeStatus [] = 0x00 ∧ composeStatus [ATTN, SM, CUE, BUSY, CE, DE, UC, UE] = 0xFF := by decide
theorem test_scan_vectors :
    scan [⟨0x80, 2⟩, ⟨0x90, 1⟩] 0x81 = some (0, 1) ∧ scan [⟨0x80, 2⟩, ⟨0x90, 1⟩] 0x82 = none ∧
      scan [⟨0x80, 2⟩, ⟨0x90, 1⟩] 0x90 = some (1, 0) ∧ scan [⟨0xF8, 8⟩] 0xFF = some (0, 7) := by decide
theorem test_registry_vectors :
    legalRegistry [⟨0x80, 4⟩, ⟨0x82, 1⟩] = false ∧ legalRegistry [⟨0xFC, 8⟩] = false ∧ legalRegistry [⟨0xF0, 16⟩] = true ∧
      legalRegistry [⟨0x80, 0⟩] = false := by decide
theorem test_legal_count :
    ((List.range 256).countP fun c => legal (BitVec.ofNat 8 c)) = 45 := by decide

/-! ## One step of each command -/

/-- R180. -/
theorem test_tio_capture : outcome (capturing 0x00 detached) = some (0x00, 0x00, 0x00, .command) := by decide
/-- R172: device-end without busy for TIO. -/
theorem test_tio_device_end :
    outcome (machine { addressed with readyFlags := 0x0001 } tagsCommand (busWord 0x00) [] [onTape] []) =
      some (0x04, 0x00, 0x00, .command) := by decide
/-- R205, R206: a byte is written; end of medium adds unit-exception and the next byte is asked for. -/
theorem test_wr_device :
    after (machine { atWork 0x01 with dataByte := 0xC1, dataReady := true } tagsHeld dontCare [ended] [] [false])
        (fun t => (t.ctx.status, t.ctx.dataReady, t.ctx.state, t.tagsIn.srv, t.env.calls.map CallRecord.call)) =
      some (0x01, false, .dataIn, true, [.writeFrame 0xC1]) := by decide
/-- R191: an error at the start ends the command with unit-check; the record never opened, so it is not closed. -/
theorem test_wr_start_error :
    outcome (starting 0x01 .error) = some (0x0E, 0x10, 0x01, .ending) ∧
      calls (starting 0x01 .error) = some [.startWrite] := by decide
/-- Program P2: byte C1 is offered with its parity. -/
theorem test_rd_device :
    after (stepDue 0x02 [⟨.ok, 0xC1⟩]) (fun t => (t.busIn, t.ctx.state, t.ctx.phase)) =
      some (0x0C1, .dataOut, .pService) := by decide
/-- R191: a tape mark at the start. -/
theorem test_rd_start_mark : outcome (starting 0x02 .markHit) = some (0x0D, 0x00, 0x02, .ending) := by decide
/-- R181: any modifier, and the unit need not be attached. -/
theorem test_ctl_capture : outcome (capturing 0xFB detached) = some (0x0C, 0x00, 0xFB, .command) := by decide
/-- R175: with sense pending it is rejected (B3 row 2). -/
theorem test_ctl_sense_pending :
    outcome (machine { addressed with senseBytes := [0x20, 0, 0, 0, 0, 0], pendingUnit := 0x0001 } tagsCommand
      (busWord 0x03) [] [onTape] []) = some (0x0E, 0xA0, 0x00, .command) := by decide
/-- B3 row 3: sense byte 1 at load point is 48. -/
theorem test_sns_byte_one :
    after (machine { atWork 0x04 with senseIndex := 1 } tagsHeld dontCare [] [atStart] [])
        (fun t => (t.ctx.dataByte, t.ctx.senseIndex, t.ctx.phase)) = some (0x48, 2, .pService) := by decide
/-- R210: after the last byte. -/
theorem test_sns_end :
    outcome (machine { atWork 0x04 with senseIndex := 6 } tagsHeld dontCare [] [] []) =
      some (0x0C, 0x00, 0x04, .ending) := by decide
/-- R178: rejected at load point. -/
theorem test_rdb_capture_load_point : outcome (capturing 0x0C atStart) = some (0x0E, 0x80, 0x00, .command) := by decide
/-- R191: the load point at the start is command-reject, not equipment check. -/
theorem test_rdb_start_load_point : outcome (starting 0x0C .endOfMedium) = some (0x0E, 0x80, 0x0C, .ending) := by decide
/-- R182. -/
theorem test_rew_capture : outcome (capturing 0x07 onTape) = some (0x08, 0x00, 0x07, .command) := by decide
/-- R276, program P3: the accepted rewind runs in the background and the controller waits. -/
theorem test_rew_concluded :
    after (plain { acked 0x07 with commandDone := true, status := 0x08 } tagsHeld dontCare)
        (fun t => (t.ctx.busyFlags, t.ctx.rewindFlags, t.ctx.state, t.ctx.selected)) =
      some (0x0001, 0x0001, .wait, false) := by decide
/-- R176. -/
theorem test_run_capture_detached : outcome (capturing 0x0F detached) = some (0x0E, 0x40, 0x00, .command) := by decide
/-- R177. -/
theorem test_erg_capture_read_only : outcome (capturing 0x17 locked) = some (0x0E, 0x80, 0x00, .command) := by decide
/-- R243: no codec call. -/
theorem test_erg_device :
    outcome (stepDue 0x17 []) = some (0x0C, 0x00, 0x17, .ending) ∧ calls (stepDue 0x17 []) = some [] := by decide
/-- R244. -/
theorem test_wtm_device : outcome (stepDue 0x1F [ended]) = some (0x0D, 0x00, 0x1F, .ending) := by decide
/-- R245: load point is command-reject. -/
theorem test_bsb_device : outcome (stepDue 0x27 [ended]) = some (0x0E, 0x80, 0x27, .ending) := by decide
/-- R246: a record passed, the command goes on. -/
theorem test_bsf_device :
    outcome (stepDue 0x2F [okay, okay]) = some (0x00, 0x00, 0x2F, .operate) ∧
      calls (stepDue 0x2F [okay, okay]) = some [.startBackwardRead, .finishRecord] := by decide
/-- R247: a tape mark is unit-exception. -/
theorem test_fsb_device : outcome (stepDue 0x37 [mark]) = some (0x0D, 0x00, 0x37, .ending) := by decide
/-- R248: a tape mark is the end that was sought. -/
theorem test_fsf_device : outcome (stepDue 0x3F [mark]) = some (0x0C, 0x00, 0x3F, .ending) := by decide
/-- R240, R248: an error of `finishRecord` is equipment check. -/
theorem test_fsf_device_error : outcome (stepDue 0x3F [okay, failed]) = some (0x0E, 0x10, 0x3F, .ending) := by decide
/-- R174 (B3 row 4). -/
theorem test_illegal_capture : outcome (capturing 0x05 onTape) = some (0x0E, 0x80, 0x00, .command) := by decide

/-! ## One step of each tag event -/

/-- R341: sense and flags are cleared, a rewind goes on. -/
theorem test_ereset :
    after (plain { atWork 0x02 with
        senseBytes := [0x20, 0, 0, 0, 0, 0], pendingUnit := 0x0001, busyFlags := 0x0002, rewindFlags := 0x0002,
        bgCounter := 3 } noTags dontCare)
        (fun t => (t.ctx.state, t.ctx.pendingUnit, t.ctx.busyFlags, t.ctx.rewindFlags, t.ctx.bgCounter, t.tagsIn.opr)) =
      some (.idle, 0x0000, 0x0002, 0x0002, 2, false) := by decide
/-- B6.1: halt in a read with the record open leaves channel-end alone. -/
theorem test_ehalt_read :
    after (machine { atWork 0x02 with state := .dataOut, phase := .pService, recOpen := true, dataReady := true } tagsHalt
        dontCare [okay] [] []) (fun t => (t.ctx.status, t.ctx.state, t.ctx.busyFlags, t.ctx.selected)) =
      some (0x08, .dataEnd, 0x0001, false) := by decide
/-- R121. -/
theorem test_esel : place (plain idleCtx tagsAddress (busWord 0x81)) = some (.select, .pAddrWait, true) := by decide
/-- R122, A7: a busy sub-unit is answered with 0x10 and without Operational-In. -/
theorem test_esel_busy :
    after (plain { idleCtx with state := .wait, busyFlags := 0x0002, rewindFlags := 0x0002, bgCounter := 1 } tagsAddress
        (busWord 0x81)) (fun t => (t.tagsIn, t.busIn, t.ctx.state)) =
      some (⟨false, false, true, false, false⟩, 0x010, .wait) := by decide
/-- R288. -/
theorem test_echain :
    place (plain { idleCtx with state := .wait, selected := true, chaining := true } tagsAddress (busWord 0x80)) =
      some (.select, .pAddrWait, true) := by decide
/-- R288: another sub-unit releases the bus. -/
theorem test_echain_other :
    place (plain { idleCtx with state := .wait, selected := true, chaining := true } tagsAddress (busWord 0x81)) =
      some (.idle, .pNone, false) := by decide
/-- R258: the first sub-unit after `currentUnit`, cyclically. -/
theorem test_epoll_ready :
    after (plain { idleCtx with state := .ready, phase := .pReq, readyFlags := 0x0003 } tagsHeld dontCare)
        (fun t => (t.ctx.currentUnit, t.ctx.phase, t.busIn)) = some (1, .pAddrIn, busWord 0x81) := by decide
/-- R133, R134: Suppress-Out withdraws a request for status. -/
theorem test_epoll_suppressed :
    place (plain { idleCtx with state := .ready, phase := .pReq, readyFlags := 0x0003 } { tagsHeld with sup := true }
      dontCare) = some (.ready, .pNone, false) := by decide
/-- R127. -/
theorem test_eabandon :
    place (plain { idleCtx with state := .select, phase := .pAddrWait, selected := true } tagsOp dontCare) =
      some (.idle, .pNone, false) := by decide
/-- R126. -/
theorem test_eadrop :
    after (plain { idleCtx with state := .select, phase := .pAddrWait, selected := true } tagsHeld dontCare)
        (fun t => (t.ctx.phase, t.tagsIn.adr, t.busIn)) = some (.pAddrIn, true, 0x080) := by decide
/-- R128, R171: the byte on bus-out runs, here with bad parity. -/
theorem test_ecmd_bad_parity :
    outcome (machine addressed tagsCommand (badWord 0x02) [] [onTape] []) = some (0x0E, 0x20, 0x00, .command) := by decide
/-- R135. -/
theorem test_ecmd_proceed :
    place (plain { atWork 0x02 with state := .request, phase := .pAddrIn } tagsCommand dontCare) =
      some (.request, .pCmdWait, true) := by decide
/-- R260: device-end with unit-check when sense is pending. -/
theorem test_ecmddrop_ready :
    after (plain { idleCtx with
        state := .ready, phase := .pCmdWait, selected := true, readyFlags := 0x0001, pendingUnit := 0x0001 } tagsHeld
        dontCare) (fun t => (t.ctx.status, t.busIn)) = some (0x06, 0x106) := by decide
/-- R219: a byte with bad parity is taken and sets bus-check. -/
theorem test_eaccept_byte :
    after (plain { atWork 0x01 with state := .dataIn, phase := .pService } tagsService (badWord 0xAA))
        (fun t => (t.ctx.dataByte, t.ctx.dataReady, t.ctx.senseBytes.headD 0, t.ctx.phase)) =
      some (0xAA, true, 0x20, .pServiceAck) := by decide
/-- R272: Suppress-Out with Service-Out chains. -/
theorem test_eaccept_chain :
    after (plain { atWork 0x02 with state := .ending, phase := .pStatus, status := 0x0C } { tagsService with sup := true }
        dontCare) (fun t => (t.ctx.chaining, t.ctx.phase)) = some (true, .pStatusAck) := by decide
/-- R273. -/
theorem test_estack :
    place (plain { atWork 0x02 with state := .ending, phase := .pStatus, status := 0x0C } tagsCommand dontCare) =
      some (.stack, .pStatusAck, true) := by decide
/-- R215, B4.3: a stopped read gives channel-end alone. -/
theorem test_estop :
    outcome (plain { atWork 0x02 with state := .dataOut, phase := .pService, dataReady := true } tagsCommand dontCare) =
      some (0x08, 0x00, 0x02, .dataOut) := by decide
/-- R274, R286: the accepted status concludes the operation, chained. -/
theorem test_eackdrop_chained :
    after (plain { atWork 0x02 with state := .ending, phase := .pStatusAck, status := 0x0C, chaining := true } tagsHeld
        dontCare) (fun t => (t.ctx.state, t.ctx.selected, t.ctx.currentCommand, t.ctx.status)) =
      some (.wait, true, 0x00, 0x00) := by decide
/-- R216, R213: the bus is released without `stay`. -/
theorem test_eackdrop_released :
    place (plain { atWork 0x02 with state := .dataOut, phase := .pServiceAck } tagsOp dontCare) =
      some (.operate, .pNone, false) := by decide
/-- R124, first variant. -/
theorem test_ebusyend_select :
    place (plain { idleCtx with phase := .pBusy } tagsHalt dontCare) = some (.idle, .pNone, false) := by decide
/-- R124, second variant. -/
theorem test_ebusyend_address :
    place (plain { idleCtx with phase := .pBusy } tagsHeld dontCare) = some (.idle, .pNone, false) := by decide
/-- R280, R257: a device-end that is owed is requested. -/
theorem test_hold_ready :
    after (plain { idleCtx with readyFlags := 0x0002 } tagsOp dontCare) (fun t => (t.ctx.state, t.tagsIn.req)) =
      some (.ready, true) := by decide

/-- R253: a finished background action is over before the event of the same cycle is met. -/
theorem test_background_tick :
    after (plain { idleCtx with state := .wait, busyFlags := 0x0002 } tagsOp dontCare)
        (fun t => (t.ctx.busyFlags, t.ctx.readyFlags, t.ctx.state)) = some (0x0000, 0x0002, .ready) := by decide

/-- R252 to R254: sub-unit 0 finishes, the failed rewind of sub-unit 1 records its sense, both owe a device-end. -/
theorem test_background_tick_rewind :
    after (machine { idleCtx with state := .wait, busyFlags := 0x0003, rewindFlags := 0x0002 } tagsOp dontCare [failed] []
        []) (fun t => (t.ctx.readyFlags, t.ctx.pendingUnit, t.ctx.senseBytes.headD 0, t.env.calls.map CallRecord.unit)) =
      some (0x0003, 0x0002, 0x10, [1]) := by decide

/-- R322, log entry 20: the failed rewind of another sub-unit takes the sense of a stacked status, not its unit-check. -/
theorem test_stacked_unit_check_stays :
    after (machine { idleCtx with
        state := .stack, status := 0x0E, currentCommand := 0x02, senseBytes := [0x40, 0, 0, 0, 0, 0], pendingUnit := 0x0001,
        busyFlags := 0x0002, rewindFlags := 0x0002 } tagsOp dontCare [failed] [] [])
        (fun t => (t.ctx.status, t.ctx.pendingUnit, t.ctx.senseBytes.headD 0)) = some (0x0E, 0x0002, 0x10) := by decide

/-- R356: the overwrite takes the unit-check of a command still running, which is composed at DATA_END (R226). -/
theorem test_running_unit_check_lost :
    after (machine { atWork 0x02 with
        senseBytes := [0x04, 0, 0, 0, 0, 0], pendingUnit := 0x0001, busyFlags := 0x0002, rewindFlags := 0x0002 } tagsHeld
        dontCare [failed, mark] [] []) (fun t => (t.ctx.status, t.ctx.state, t.ctx.senseBytes.headD 0)) =
      some (0x0C, .ending, 0x10) := by decide

/-- R356: it takes that of a device-end that READY offers again after it was stacked, which is composed anew (R260, R261). -/
theorem test_ready_unit_check_lost :
    after (machine { idleCtx with
        state := .ready, phase := .pCmdWait, selected := true, readyFlags := 0x0001, pendingUnit := 0x0001,
        senseBytes := [0x10, 0, 0, 0, 0, 0], busyFlags := 0x0002, rewindFlags := 0x0002 } tagsHeld dontCare [failed] [] [])
        (fun t => (t.ctx.status, t.ctx.pendingUnit)) = some (0x04, 0x0002) := by decide

/-! ## The last line of ACCEPT is a poll (R107, last paragraph) -/

/-- A controller at 0x90 with Request-In up for data service. -/
def requesting : Controller :=
  ⟨⟨0x90, 1⟩, { Ctx.attach ⟨0x90, 1⟩ 6 with state := .request, phase := .pReq, currentCommand := 0x02 }⟩

/-- A controller at 0x80 whose ending status has been accepted. -/
def concluding : Controller :=
  ⟨entry, { atWork 0x02 with state := .ending, phase := .pStatusAck, status := 0x0C, commandDone := true }⟩

/-- The in-tags and bus-in at the end of a bus cycle. -/
def seenAfter (l : CycleIn) (s : State) : Option (InTags × BusWord) := (runLine l s).map fun t => (t.tagsIn, t.busIn)

/-- The requester later in registry order answers with Address-In in the cycle that frees the bus; ACCEPT-DROP's last
line is no poll. -/
theorem test_poll_in_the_releasing_cycle :
    let s := { plain idleCtx tagsOp dontCare with cur := concluding, after := [requesting], env := Env.empty }
    seenAfter ⟨tagsHeld, dontCare⟩ s = some (⟨true, true, false, false, false⟩, busWord 0x90) ∧
      seenAfter ⟨tagsOp, dontCare⟩ s = some (⟨false, false, false, false, true⟩, 0x000) := by decide

/-- The requester earlier in registry order answers in the next cycle (R352 item 5). -/
theorem test_poll_in_the_next_cycle :
    let s := { plain idleCtx tagsOp dontCare with cur := requesting, after := [concluding], env := Env.empty }
    seenAfter ⟨tagsHeld, dontCare⟩ s = some (⟨false, false, false, false, true⟩, 0x000) ∧
      (runLine ⟨tagsHeld, dontCare⟩ s).bind (seenAfter ⟨tagsHeld, dontCare⟩) =
        some (⟨true, true, false, false, false⟩, busWord 0x90) := by decide

/-! ## The channel's obligations (R352) -/

/-- The line of a cycle. -/
def line (o : OutTags) (w : BusWord) : CycleIn := ⟨o, w⟩

/-- A whole TIO, from the selection to the dropped response, keeps them (spec/95_test_vectors.md B3 row 29). -/
theorem test_channel_keeps :
    scriptKeeps InTags.down (line tagsOp dontCare)
      [line tagsAddress (busWord 0x80), line tagsHeld dontCare, line tagsCommand (busWord 0x00), line tagsHeld dontCare,
        line tagsService dontCare, line tagsHeld dontCare]
      (machine idleCtx tagsOp dontCare [] [onTape] []) = true := by decide

/-- (1): Operational-In up allows a re-address in chained WAIT and no selection at work. -/
theorem test_channel_selection :
    keepsSelection (line tagsHeld dontCare)
        (plain { idleCtx with state := .wait, selected := true, chaining := true } tagsHeld dontCare)
        (line tagsAddress (busWord 0x80)) = true ∧
      keepsSelection (line tagsHeld dontCare) (plain (atWork 0x02) tagsHeld dontCare)
        (line tagsAddress (busWord 0x80)) = false := by decide

/-- (4): a command byte needs good parity, a proceed after a poll does not. -/
theorem test_channel_parity :
    keepsBusOut (line tagsHeld dontCare) (plain addressed tagsHeld dontCare) (line tagsCommand (badWord 0x02)) = false ∧
      keepsBusOut (line tagsHeld dontCare) (plain { atWork 0x02 with state := .request, phase := .pAddrIn } tagsHeld
        dontCare) (line tagsCommand (badWord 0x02)) = true := by decide

/-- (4): the address stays on bus-out while Address-Out is up, the byte of a WR while Service-Out is. -/
theorem test_channel_stable :
    keepsBusOut (line tagsAddress (busWord 0x80)) (plain idleCtx tagsHeld dontCare)
        (line tagsAddress (busWord 0x81)) = false ∧
      keepsBusOut (line tagsService (busWord 0x55)) (plain { atWork 0x01 with state := .dataIn, phase := .pServiceAck }
        tagsHeld dontCare) (line tagsService (busWord 0x66)) = false := by decide

/-- R310, R302: an illegal registry is refused, never run. -/
theorem test_illegal_configuration :
    State.attach Params.default [⟨0x80, 4⟩, ⟨0x82, 1⟩] = .error .illegalConfiguration := by decide

/-! ## Witnesses: for each statement of Certificates/Slice0/Obligations.lean with hypotheses, states and operands that meet
them together, clause by clause -/

/-- The state after one step. -/
def stepped (s : State) : State := (after s id).getD s

/-- A bus with two controllers, the second about to step. -/
def secondTurn : State :=
  { plain idleCtx tagsOp dontCare with
    before := [⟨entry, { idleCtx with selected := true, state := .operate, currentCommand := 0x02 }⟩]
    cur := ⟨⟨0x90, 1⟩, Ctx.attach ⟨0x90, 1⟩ 6⟩ }

/-- A bus with two controllers at the start of a cycle. -/
def firstTurn : State := { plain idleCtx tagsOp dontCare with after := [⟨⟨0x90, 1⟩, Ctx.attach ⟨0x90, 1⟩ 6⟩] }

/-- Instructions of every format and phase, each with a context that qualifies it. -/
theorem witness_DecodeOfEncode :
    ∀ p ∈ ([(inPhase .pNone false, .ctl 0x1F), (inPhase .pNone false, .illegal 0xFF),
        (inPhase .pNone true, .ereset true true true true true true), (inPhase .pService true, .ehalt false false false false),
        (inPhase .pReq false, .esel true), (⟨.pNone, true, true, true, true, false⟩, .echain true),
        (⟨.pReq, false, false, true, false, true⟩, .epoll false), (⟨.pReq, false, false, true, false, false⟩, .epoll true),
        (inPhase .pAddrWait true, .eabandon true true true true), (inPhase .pAddrWait true, .eadrop true false true true true),
        (inPhase .pAddrIn true, .ecmd false false false false), (inPhase .pCmdWait true, .ecmddrop true true true true true),
        (inPhase .pStatus true, .eaccept true true true true), (inPhase .pService true, .eaccept false false false false),
        (inPhase .pStatus true, .estack true true true true), (inPhase .pService true, .estop true true true true),
        (inPhase .pStatusAck true, .eackdrop true true true true), (inPhase .pServiceAck true, .eackdrop false true false true),
        (inPhase .pBusy false, .ebusyendSel0 true true true true true),
        (inPhase .pBusy false, .ebusyendAdr0 true true true true true),
        (inPhase .pBusy false, .hold ⟨true, true, true, true, true, true, true⟩)] : List (Qual × Instr)),
      wellFormed p.2 = true ∧ qualifies p.1 p.2 = true := by decide

theorem witness_CommandMap :
    (0x03 : Byte) &&& 0x07 = 0x03 ∧ (0xFB : Byte) &&& 0x07 = 0x03 ∧
      ∀ c ∈ ([0x05, 0xFF] : List Byte), c &&& 0x07 ≠ 0x03 ∧
        c ∉ ([0x00, 0x01, 0x02, 0x04, 0x0C, 0x07, 0x0F, 0x17, 0x1F, 0x27, 0x2F, 0x37, 0x3F] : List Byte) := by decide

/-- No sub-units; a range one past 0xFF; two ranges that share their last and first address. -/
theorem witness_BadRegistryRefused :
    (∃ e ∈ ([⟨0x80, 0⟩] : List RegEntry), e.nunits = 0) ∧
      (∃ e ∈ ([⟨0xF1, 16⟩] : List RegEntry), 256 < e.base.toNat + e.nunits) ∧
      ¬([⟨0x80, 3⟩, ⟨0x82, 1⟩] : List RegEntry).Pairwise fun e k =>
        ∀ a : Byte, ¬((e.base.toNat ≤ a.toNat ∧ a.toNat < e.base.toNat + e.nunits) ∧
          (k.base.toNat ≤ a.toNat ∧ a.toNat < k.base.toNat + k.nunits)) := by decide

theorem witness_StepTotal :
    firstTurn.legal = true ∧ { firstTurn with after := [⟨⟨0x81, 1⟩, idleCtx⟩] }.legal = false := by decide

/-- A rewind tick before a selection, and a command byte on bus-out. -/
theorem witness_StepRunsDecoded :
    let s := machine { idleCtx with state := .wait, busyFlags := 0x0002, rewindFlags := 0x0002 } tagsAddress
      (busWord 0x80) [ended] [] []
    (s.legal = true ∧ wellFormed (.esel false) = true ∧ decode (tick s).qual (tick s).fetch = .esel false) ∧
      (capturing 0x0C onTape).legal = true ∧ wellFormed .rdb = true ∧
      decode (tick (capturing 0x0C onTape)).qual (tick (capturing 0x0C onTape)).fetch = .rdb := by decide

theorem witness_StageOrder :
    (plain (atWork 0x02) noTags dontCare).out.opr = false ∧
      (let s := plain (atWork 0x02) tagsHalt dontCare
      s.out.opr = true ∧ s.ctx.selected = true ∧ s.out.adr = true ∧ s.out.sel = false) ∧
      (let s := plain { idleCtx with phase := .pBusy } tagsAddress (busWord 0x80)
      s.out.opr = true ∧ s.ctx.selected = false ∧ s.ctx.phase = .pBusy) ∧
      (let s := plain idleCtx tagsAddress (busWord 0x81)
      s.ctx.selected = false ∧ s.ctx.phase = .pNone ∧ s.busFree = true ∧ parityOK s.busOut = true ∧
        scan s.registry (busByte s.busOut) = some (s.index, 1) ∧ s.out.isSelect = true) := by decide

theorem witness_StepKeepsRegistry_turn : step firstTurn = .next (stepped firstTurn) ∧ firstTurn.after ≠ [] :=
  ⟨rfl, by decide⟩
theorem witness_StepKeepsRegistry_cycle : step secondTurn = .next (stepped secondTurn) ∧ secondTurn.after = [] :=
  ⟨rfl, rfl⟩

theorem witness_BusCycle : firstTurn.legal = true ∧ firstTurn.before = [] := by decide

/-- Several controllers whose ranges meet, the last one up to address 0xFF. -/
theorem witness_ResetInv :
    (State.attached Params.default entry [⟨0x82, 1⟩, ⟨0xF0, 16⟩]).legal = true := by decide

/-- A rewind in one sub-unit while the other reads. -/
def busyReading : State :=
  machine { atWork 0x02 with
    recOpen := true, busyFlags := 0x0002, rewindFlags := 0x0002, senseBytes := [0x10, 0, 0, 0, 0, 0],
    pendingUnit := 0x0002, statusUnit := 1 } tagsHeld dontCare [okay, okay] [] [false]

theorem witness_StepKeepsInv : Inv busyReading ∧ step busyReading = .next (stepped busyReading) := by
  refine ⟨fun k hk => ?_, rfl⟩
  obtain rfl := List.mem_singleton.1 (show k ∈ [(⟨entry, busyReading.ctx⟩ : Controller)] from hk)
  constructor <;> decide

theorem witness_StepKeepsExclusive : Exclusive secondTurn ∧ step secondTurn = .next (stepped secondTurn) :=
  ⟨by unfold Exclusive; decide, rfl⟩

theorem witness_StepKeepsUnusedBits :
    (∀ k ∈ busyReading.controllers, UnusedBitsClear k.ctx) ∧ step busyReading = .next (stepped busyReading) := by
  refine ⟨fun k hk => ?_, rfl⟩
  obtain rfl := List.mem_singleton.1 (show k ∈ [(⟨entry, busyReading.ctx⟩ : Controller)] from hk)
  unfold UnusedBitsClear; decide

/-- What an instruction makes of a state. -/
def result (i : Instr) (s : State) : State := (ran i s id).getD s

theorem witness_OnlyOwnContext :
    exec .rd busyReading = .next (result .rd busyReading) ∧
      exec (.ehalt false false false false) busyReading = .next (result (.ehalt false false false false) busyReading) :=
  ⟨rfl, rfl⟩

/-- A status presented and accepted, and a write that has met the end of the medium. -/
theorem witness_StatusOnlyGrows :
    let s := plain { atWork 0x02 with state := .ending, phase := .pStatusAck, status := 0x0C } tagsHeld dontCare
    let v := machine { atWork 0x01 with status := 0x01, dataReady := true } tagsHeld dontCare [okay] [] [false]
    (exec (.eackdrop true true false false) s = .next (result (.eackdrop true true false false) s) ∧
        s.ctx.state ∈ [CState.operate, .request, .dataIn, .dataOut, .dataEnd, .ending, .stack]) ∧
      exec .wr v = .next (result .wr v) ∧
        v.ctx.state ∈ [CState.operate, .request, .dataIn, .dataOut, .dataEnd, .ending, .stack] :=
  ⟨⟨rfl, by decide⟩, rfl, by decide⟩

/-- The initial status of a command with work, accepted by the channel, and its work begun. -/
theorem witness_StatusOnlyGrows_initial :
    let s := plain { acked 0x02 with state := .command, phase := .pStatus } tagsService dontCare
    let v := starting 0x02 .markHit
    (exec (.eaccept true true false false) s = .next (result (.eaccept true true false false) s) ∧
        s.ctx.state ∈ [CState.command, .initStatus] ∧ CtxInv s.params s.cur) ∧
      exec .rd v = .next (result .rd v) ∧ v.ctx.state ∈ [CState.command, .initStatus] ∧ CtxInv v.params v.cur := by
  refine ⟨⟨rfl, by decide, ?_⟩, rfl, by decide, ?_⟩ <;> constructor <;> decide

/-- P_SERVICE_ACK is a phase of no event but EACKDROP, P_NONE one of neither. -/
theorem witness_EventOutOfPhaseHolds :
    (Phase.pServiceAck ≠ .pNone ∧ Phase.pServiceAck ≠ .pReq ∧ Phase.pServiceAck ≠ .pAddrWait ∧
        Phase.pServiceAck ≠ .pAddrIn ∧ Phase.pServiceAck ≠ .pCmdWait ∧ Phase.pServiceAck ≠ .pStatus ∧
        Phase.pServiceAck ≠ .pService ∧ Phase.pServiceAck ≠ .pBusy) ∧
      Phase.pNone ≠ .pStatusAck ∧ Phase.pNone ≠ .pServiceAck := by decide

/-- A range that ends at 0xFF, and its first and last address. -/
theorem witness_ScanFinds :
    legalRegistry [⟨0x80, 2⟩, ⟨0xF0, 16⟩] = true ∧ scan [⟨0x80, 2⟩, ⟨0xF0, 16⟩] 0xF0 = some (1, 0) ∧
      scan [⟨0x80, 2⟩, ⟨0xF0, 16⟩] 0xFF = some (1, 15) := by decide

theorem witness_SenseSet : idleCtx.senseBytes = 0x00 :: [0x00, 0x00, 0x00, 0x00, 0x00] := by decide

theorem witness_ConcludedAtCapture :
    (AtCapture (capturing 0x00 detached) ∧ Unobstructed (capturing 0x00 detached)) ∧
      AtCapture (capturing 0x07 onTape) ∧ Unobstructed (capturing 0x07 onTape) ∧
      (capturing 0x07 onTape).nextCond.attached = true := by decide

theorem witness_WorkAccepted :
    (let s := machine { addressed with pendingUnit := 0x0001 } tagsCommand (busWord 0x04) [] [detached] []
    AtCapture s ∧ hasBit s.ctx.readyFlags s.ctx.currentUnit = false ∧ parityOK s.busOut = true) ∧
      (let s := capturing 0x01 onTape
      AtCapture s ∧ hasBit s.ctx.readyFlags s.ctx.currentUnit = false ∧ parityOK s.busOut = true ∧
        hasBit s.ctx.pendingUnit s.ctx.currentUnit = false ∧ s.nextCond.attached = true ∧
        s.nextCond.readOnly = false ∧ s.nextCond.atLoadPoint = false) := by decide

theorem witness_BadCommandByteRejected :
    (let s := machine addressed tagsCommand (badWord 0x02) [] [onTape] []
    AtCapture s ∧ hasBit s.ctx.readyFlags s.ctx.currentUnit = false ∧ parityOK s.busOut = false ∧
      byteOfInstr .rd = some 0x02) ∧
      (let s := capturing 0x05 onTape
      AtCapture s ∧ hasBit s.ctx.readyFlags s.ctx.currentUnit = false ∧ parityOK s.busOut = true ∧
        legal 0x05 = false) := by decide

theorem witness_PendingDeviceEnd :
    let s := machine { addressed with currentUnit := 1, readyFlags := 0x0002, pendingUnit := 0x0002 } tagsCommand
      (busWord 0x02) [] [onTape] []
    byteOfInstr .rd = some 0x02 ∧ wellFormed .rd = true ∧ AtCapture s ∧
      hasBit s.ctx.readyFlags s.ctx.currentUnit = true := by decide

theorem witness_PendingSenseRejected :
    let s := machine { addressed with pendingUnit := 0x0001 } tagsCommand (busWord 0x00) [] [onTape] []
    byteOfInstr .tio = some 0x00 ∧ legal 0x00 = true ∧ (0x00 : Byte) ≠ 0x04 ∧ AtCapture s ∧
      hasBit s.ctx.readyFlags s.ctx.currentUnit = false ∧ parityOK s.busOut = true ∧
      hasBit s.ctx.pendingUnit s.ctx.currentUnit = true := by decide

theorem witness_NotReadyRejected :
    AtCapture (capturing 0x01 detached) ∧ Unobstructed (capturing 0x01 detached) ∧
      (capturing 0x01 detached).nextCond.attached = false := by decide

theorem witness_MediumRejected :
    (AtCapture (capturing 0x1F locked) ∧ Unobstructed (capturing 0x1F locked) ∧
        (capturing 0x1F locked).nextCond.attached = true ∧ (capturing 0x1F locked).nextCond.readOnly = true) ∧
      AtCapture (capturing 0x27 atStart) ∧ Unobstructed (capturing 0x27 atStart) ∧
      (capturing 0x27 atStart).nextCond.attached = true ∧ (capturing 0x27 atStart).nextCond.atLoadPoint = true := by decide

/-- Every answer of the codec. -/
theorem witness_WriteStarts :
    ∀ r ∈ [CodecResult.ok, .endOfMedium, .markHit, .error],
      AtBranch (starting 0x01 r) ∧ (starting 0x01 r).ctx.commandDone = false ∧
        (starting 0x01 r).nextAnswer.result = r := by decide

/-- Every answer of the codec. -/
theorem witness_ReadStarts :
    ∀ r ∈ [CodecResult.ok, .endOfMedium, .markHit, .error],
      AtBranch (starting 0x0C r) ∧ (starting 0x0C r).ctx.commandDone = false ∧
        (starting 0x0C r).nextAnswer.result = r := by decide

theorem witness_SenseAndMotionStart :
    AtBranch (starting 0x17 .ok) ∧ (starting 0x17 .ok).ctx.commandDone = false := by decide

/-- One cycle of delay left. -/
theorem witness_DelayCounts :
    let s := plain { atWork 0x02 with delayCounter := 1 } tagsHeld dontCare
    s.ctx.state = .operate ∧ s.ctx.phase = .pNone ∧ 0 < s.ctx.delayCounter := by decide

/-- A byte already held, and every answer of the codec; the bus kept and lost. -/
theorem witness_ReadStep :
    (let s := plain { atWork 0x02 with dataReady := true } tagsOp dontCare
    AtDeviceStep s ∧ s.ctx.dataReady = true) ∧
      ∀ r ∈ [CodecResult.ok, .endOfMedium, .markHit, .error],
        AtDeviceStep (stepDue 0x02 [⟨r, 0xC1⟩]) ∧ (stepDue 0x02 [⟨r, 0xC1⟩]).ctx.dataReady = false ∧
          (stepDue 0x02 [⟨r, 0xC1⟩]).nextAnswer.result = r := by decide

/-- No byte held, and every answer of the codec for one that is. -/
theorem witness_WriteStep :
    (AtDeviceStep (stepDue 0x01 []) ∧ (stepDue 0x01 []).ctx.dataReady = false) ∧
      ∀ r ∈ [CodecResult.ok, .endOfMedium, .markHit, .error],
        let s := machine { atWork 0x01 with dataReady := true } tagsHeld dontCare [⟨r, 0x00⟩] [] [true]
        AtDeviceStep s ∧ s.ctx.dataReady = true ∧ s.nextAnswer.result = r := by decide

/-- The first byte, byte 1, the last byte, and the end. -/
theorem witness_SenseStep :
    (let s := plain { atWork 0x04 with dataReady := true } tagsHeld dontCare
    AtDeviceStep s ∧ s.ctx.dataReady = true) ∧
      (∀ i ∈ [0, 5],
        let s := plain { atWork 0x04 with senseIndex := i } tagsHeld dontCare
        AtDeviceStep s ∧ s.ctx.dataReady = false ∧ s.ctx.senseIndex < s.params.nsense ∧ s.ctx.senseIndex ≠ 1) ∧
      (let s := plain { atWork 0x04 with senseIndex := 1 } tagsHeld dontCare
      AtDeviceStep s ∧ s.ctx.dataReady = false ∧ s.ctx.senseIndex < s.params.nsense ∧ s.ctx.senseIndex = 1) ∧
      (let s := plain { atWork 0x04 with senseIndex := 6 } tagsHeld dontCare
      AtDeviceStep s ∧ s.ctx.dataReady = false ∧ s.ctx.senseIndex = s.params.nsense) := by decide

theorem witness_EraseAndMarkStep :
    ∀ r ∈ [CodecResult.ok, .endOfMedium, .markHit, .error],
      AtDeviceStep (stepDue 0x1F [⟨r, 0x00⟩]) ∧ (stepDue 0x1F [⟨r, 0x00⟩]).nextAnswer.result = r := by decide

theorem witness_Skip :
    ∀ r ∈ [CodecResult.endOfMedium, .markHit, .error],
      (stepDue 0x27 [okay, failed]).nextAnswer.result = .ok ∧
        (stepDue 0x27 [⟨r, 0x00⟩]).nextAnswer.result ≠ .ok := by decide

/-- `skip` answers each of its four results, the error also from `finishRecord`. -/
theorem witness_SpacingStep :
    (AtDeviceStep (stepDue 0x27 [okay, okay]) ∧ skipResult .startBackwardRead (stepDue 0x27 [okay, okay]) = .ok) ∧
      (AtDeviceStep (stepDue 0x27 [mark]) ∧ skipResult .startBackwardRead (stepDue 0x27 [mark]) = .markHit) ∧
      (AtDeviceStep (stepDue 0x27 [ended]) ∧ skipResult .startBackwardRead (stepDue 0x27 [ended]) = .endOfMedium) ∧
      (AtDeviceStep (stepDue 0x37 [failed]) ∧ skipResult .startForwardRead (stepDue 0x37 [failed]) = .error) ∧
      (AtDeviceStep (stepDue 0x37 [okay, failed]) ∧
        skipResult .startForwardRead (stepDue 0x37 [okay, failed]) = .error) := by decide

theorem witness_DataEndEntered : (stepDue 0x17 []).ctx.recOpen = false := by decide

/-- Every answer of `finishRecord`, for a write and for a read. -/
theorem witness_RecordClosed :
    (stepDue 0x17 []).ctx.recOpen = false ∧
      ∀ r ∈ [CodecResult.ok, .endOfMedium, .markHit, .error], ∀ c ∈ ([0x01, 0x02] : List Byte),
        let s := machine { atWork c with recOpen := true } tagsHeld dontCare [⟨r, 0x00⟩] [] []
        s.ctx.recOpen = true ∧ s.nextAnswer.result = r ∧ s.ctx.currentCommand = c := by decide

/-- A status accepted in END, and one accepted as initial status of a concluded command. -/
theorem witness_OperationConcluded :
    AtConclusion (plain { atWork 0x02 with state := .ending, phase := .pStatusAck } tagsHeld dontCare) ∧
      (let s := plain { acked 0x07 with commandDone := true } tagsHeld dontCare
      AtConclusion s ∧ s.ctx.state = .initStatus ∧ s.out.isAckDrop = true ∧ byteOfInstr .rew = some 0x07) := by decide

/-- Every clause of the halt: a selected controller in each state, with its phase. -/
theorem witness_Halt :
    (∀ st ∈ [CState.select, .command, .operate, .dataIn, .dataOut, .request, .dataEnd, .wait],
      let s := plain { atWork 0x02 with state := st } tagsHalt dontCare
      s.ctx.selected = true ∧ s.ctx.state = st) ∧
      (∀ d ∈ [true, false],
        let s := plain { acked 0x07 with commandDone := d } tagsHalt dontCare
        s.ctx.selected = true ∧ s.ctx.state = .initStatus ∧ s.ctx.commandDone = d) ∧
      (∀ p ∈ [(CState.ending, Phase.pStatus), (.ending, .pStatusAck), (.ready, .pAddrIn), (.ready, .pCmdWait),
          (.ready, .pStatus), (.ready, .pStatusAck)],
        let s := plain { atWork 0x02 with state := p.1, phase := p.2 } tagsHalt dontCare
        s.ctx.selected = true ∧ s.ctx.state = p.1 ∧ s.ctx.phase = p.2) ∧
      (let s := plain { atWork 0x02 with state := .stack, phase := .pStatusAck, status := 0x0C } tagsHalt dontCare
      s.ctx.selected = true ∧ s.ctx.state = .stack ∧ s.ctx.status ≠ 0x00) ∧
      (let s := plain { atWork 0x00 with state := .stack, phase := .pStatusAck } tagsHalt dontCare
      s.ctx.selected = true ∧ s.ctx.state = .stack ∧ s.ctx.status = 0x00) := by decide

theorem witness_HaltReach :
    (plain idleCtx tagsHalt dontCare).ctx.selected = false ∧
      exec (.ehalt false false false false) busyReading = .next (result (.ehalt false false false false) busyReading) :=
  ⟨by decide, rfl⟩

/-- The first and the last sub-unit: idle, busy, and a controller whose operation lost the bus. -/
theorem witness_AddressedSelection :
    (∀ p ∈ ([(0x80, 0), (0x81, 1)] : List (Byte × Nat)),
      let s := plain idleCtx tagsAddress (busWord p.1)
      s.ctx.selected = false ∧ s.ctx.phase = .pNone ∧ s.busFree = true ∧ parityOK s.busOut = true ∧
        scan s.registry (busByte s.busOut) = some (s.index, p.2) ∧ s.ctx.state ∈ [CState.idle, .wait, .ready] ∧
        hasBit s.ctx.busyFlags p.2 = false) ∧
      (let s := plain { idleCtx with state := .wait, busyFlags := 0x0002 } tagsAddress (busWord 0x81)
      s.ctx.selected = false ∧ s.ctx.phase = .pNone ∧ s.busFree = true ∧ parityOK s.busOut = true ∧
        scan s.registry (busByte s.busOut) = some (s.index, 1) ∧ s.ctx.state ∈ [CState.idle, .wait, .ready] ∧
        hasBit s.ctx.busyFlags 1 = true) ∧
      (let s := plain { atWork 0x02 with state := .request, phase := .pReq, selected := false } tagsAddress (busWord 0x80)
      s.ctx.selected = false ∧ s.ctx.phase = .pReq ∧ s.busFree = true ∧ parityOK s.busOut = true ∧
        scan s.registry (busByte s.busOut) = some (s.index, 0) ∧
        s.ctx.state ∈ [CState.operate, .request, .dataEnd, .stack]) := by decide

/-- Each reason: selected, a handshake going on, the bus taken, bad parity, an address just past the range. -/
theorem witness_UnqualifiedSelection :
    (plain (atWork 0x02) tagsAddress (busWord 0x80)).ctx.selected = true ∧
      (plain { idleCtx with phase := .pBusy } tagsAddress (busWord 0x80)).ctx.phase = .pBusy ∧
      { secondTurn with env := { Env.empty with lines := [⟨tagsAddress, busWord 0x90⟩] } }.busFree = false ∧
      parityOK (plain idleCtx tagsAddress (badWord 0x80)).busOut = false ∧
      (let s := plain idleCtx tagsAddress (busWord 0x82)
      scan s.registry (busByte s.busOut) = none) := by decide

/-- The same sub-unit, and each reason why not: bad parity, another sub-unit, busy. -/
theorem witness_ChainedReaddress :
    let waiting : Ctx := { idleCtx with state := .wait, selected := true, chaining := true }
    let same (s : State) : Prop := parityOK s.busOut = true ∧
      scan s.registry (busByte s.busOut) = some (s.index, s.ctx.currentUnit) ∧
      hasBit s.ctx.busyFlags s.ctx.currentUnit = false
    (waiting.state = .wait ∧ waiting.selected = true ∧ waiting.chaining = true) ∧
      same (plain waiting tagsAddress (busWord 0x80)) ∧ ¬same (plain waiting tagsAddress (badWord 0x80)) ∧
      ¬same (plain waiting tagsAddress (busWord 0x81)) ∧
      ¬same (plain { waiting with busyFlags := 0x0001 } tagsAddress (busWord 0x80)) := by decide

/-- Each requesting state; in READY the next sub-unit (k = 1) and, round the cycle, the same one (k = NUNITS). -/
theorem witness_PollTaken :
    (∀ st ∈ [CState.request, .stack, .dataEnd, .ready],
      let s := plain { idleCtx with state := st, phase := .pReq } tagsHeld dontCare
      s.ctx.phase = .pReq ∧ s.busFree = true ∧ s.ctx.state = st) ∧
      (let s := plain { idleCtx with state := .ready, phase := .pReq, readyFlags := 0x0003 } tagsHeld dontCare
      1 ≤ s.nunits ∧ hasBit s.ctx.readyFlags ((s.ctx.currentUnit + 1) % s.nunits) = true) ∧
      (let s := plain { idleCtx with state := .ready, phase := .pReq, readyFlags := 0x0001 } tagsHeld dontCare
      s.nunits = 2 ∧ hasBit s.ctx.readyFlags ((s.ctx.currentUnit + 2) % s.nunits) = true ∧
        hasBit s.ctx.readyFlags ((s.ctx.currentUnit + 1) % s.nunits) = false) := by decide

theorem witness_SelectionSteps :
    (let s := plain { idleCtx with state := .select, phase := .pAddrWait, selected := true } tagsHeld dontCare
    s.ctx.state = .select ∧ s.ctx.phase = .pAddrWait) ∧
      (plain { idleCtx with phase := .pBusy } tagsOp dontCare).ctx.phase = .pBusy := by decide

theorem witness_CommandOut :
    (let s := capturing 0x02 onTape
    s.ctx.phase = .pAddrIn ∧ s.ctx.state = .select ∧ s.out.isCommandOut = true) ∧
      ∀ st ∈ [CState.request, .stack, .dataEnd, .ready],
        let s := plain { atWork 0x02 with state := st, phase := .pAddrIn } tagsCommand dontCare
        s.ctx.phase = .pAddrIn ∧ s.ctx.state = st := by decide

theorem witness_CommandDrop :
    ∀ st ∈ [CState.command, .request, .stack, .dataEnd, .ready],
      let s := plain { atWork 0x02 with state := st, phase := .pCmdWait } tagsHeld dontCare
      s.ctx.phase = .pCmdWait ∧ s.ctx.state = st := by decide

/-- The states in which a status is presented: for EACCEPT and for ESTACK. -/
theorem witness_StatusAccepted_StatusStacked :
    ∀ st ∈ [CState.command, .ready, .ending],
      let s := plain { atWork 0x02 with state := st, phase := .pStatus } tagsService dontCare
      s.ctx.phase = .pStatus ∧ s.ctx.state = st := by decide

/-- The states in which a byte is offered or asked for: for EACCEPT, and for ESTOP with the commands that offer. -/
theorem witness_ByteTransferred_TransferStopped :
    (∀ c ∈ ([0x02, 0x0C, 0x04] : List Byte),
      let s := plain { atWork c with state := .dataOut, phase := .pService } tagsCommand dontCare
      s.ctx.phase = .pService ∧ s.ctx.state = .dataOut ∧ s.ctx.currentCommand = c) ∧
      (let s := plain { atWork 0x01 with state := .dataIn, phase := .pService } tagsService (badWord 0xAA)
      s.ctx.phase = .pService ∧ s.ctx.state = .dataIn) := by decide

theorem witness_AckDropped :
    (let s := starting 0x02 .ok
    s.ctx.state = .initStatus ∧ s.ctx.phase = .pStatusAck ∧ s.ctx.commandDone = false ∧
      isWorkCommand s.ctx.currentCommand = true ∧ s.out = ⟨true, true, true, false, false, false, false⟩) ∧
      (∀ st ∈ [CState.dataOut, .dataIn],
        let s := plain { atWork 0x01 with state := st, phase := .pServiceAck } tagsHeld dontCare
        s.ctx.state = st ∧ s.ctx.phase = .pServiceAck) ∧
      (∀ st ∈ [CState.ready, .stack],
        let s := plain { atWork 0x02 with state := st, phase := .pStatusAck } tagsHeld dontCare
        s.ctx.state = st ∧ s.ctx.phase = .pStatusAck ∧ s.ctx.selected = true) := by decide

theorem witness_QuietCycle :
    (AtRest (plain idleCtx tagsOp dontCare) ∧
        AtRest (plain { idleCtx with state := .ready, phase := .pReq, readyFlags := 0x0001 } tagsOp dontCare)) ∧
      (let s := plain { idleCtx with state := .request } tagsOp dontCare
      s.ctx.state = .request ∧ s.ctx.selected = false ∧ s.ctx.phase = .pNone) ∧
      (∀ p ∈ [(CState.stack, Phase.pNone), (.dataEnd, .pReq)],
        let s := plain { idleCtx with state := p.1, phase := p.2 } tagsOp dontCare
        s.ctx.state = p.1 ∧ s.ctx.selected = false ∧ s.ctx.phase = p.2) ∧
      (let s := plain { idleCtx with state := .wait, selected := true, chaining := true } tagsHeld dontCare
      s.ctx.state = .wait ∧ s.ctx.selected = true ∧ s.ctx.chaining = true ∧ s.ctx.phase = .pNone) ∧
      (let s := stepDue 0x02 [okay]
      s.ctx.state = .operate ∧ s.ctx.phase = .pNone ∧ isWorkCommand s.ctx.currentCommand = true ∧ tagsHeld = s.out) ∧
      addressed.state ∈ [CState.select, .command, .initStatus, .dataIn, .dataOut, .ending] ∧
      (∀ p ∈ [(CState.request, Phase.pAddrIn), (.request, .pCmdWait), (.dataEnd, .pCmdWait), (.stack, .pStatusAck),
          (.ready, .pStatus)],
        let s := plain { atWork 0x02 with state := p.1, phase := p.2 } tagsHeld dontCare
        s.ctx.state = p.1 ∧ holdsBus s.ctx.phase = true) ∧
      (let s := plain { idleCtx with state := .request, phase := .pReq } tagsOp dontCare
      s.ctx.state = .request ∧ s.ctx.phase = .pReq) := by decide

/-- Sub-unit 0 idle, sub-unit 1 finishing, and a rewind under each answer of the codec. -/
theorem witness_BackgroundUnit :
    (let s := plain { idleCtx with state := .wait, busyFlags := 0x0002 } tagsOp dontCare
    hasBit s.ctx.busyFlags 0 = false ∧ hasBit s.ctx.busyFlags 1 = true ∧ hasBit s.ctx.rewindFlags 1 = false) ∧
      ∀ r ∈ [CodecResult.ok, .endOfMedium, .markHit, .error],
        let s := machine { idleCtx with state := .wait, busyFlags := 0x0002, rewindFlags := 0x0002 } tagsOp dontCare
          [⟨r, 0x00⟩] [] []
        hasBit s.ctx.busyFlags 1 = true ∧ hasBit s.ctx.rewindFlags 1 = true ∧ s.nextAnswer.result = r := by decide

/-- Nothing busy, the last count, the end of both sub-units of the controller, and a rewind of the last one. -/
theorem witness_BackgroundTick :
    (plain idleCtx tagsOp dontCare).ctx.busyFlags = 0 ∧
      (let s := plain { idleCtx with busyFlags := 0x0003, bgCounter := 1 } tagsOp dontCare
      s.ctx.busyFlags ≠ 0 ∧ 0 < s.ctx.bgCounter) ∧
      (let s := plain { idleCtx with busyFlags := 0x0003 } tagsOp dontCare
      s.ctx.busyFlags ≠ 0 ∧ s.ctx.bgCounter = 0 ∧ s.ctx.rewindFlags = 0 ∧ maskFits s.nunits s.ctx.busyFlags) ∧
      (let s := machine { idleCtx with busyFlags := 0x0003, rewindFlags := 0x0002 } tagsOp dontCare [ended] [] []
      s.ctx.busyFlags ≠ 0 ∧ s.ctx.bgCounter = 0 ∧ s.ctx.rewindFlags ≠ 0) := by decide

end Sys2Proof.Tests
end

section
/-! What an instruction can do, said once: `exec` runs one of the meanings of `Meaning`, and a command with work runs
the start and the device step of its own row (`WorkRow`, R191, R201). The frame, the invariant and the bus proofs below
all split along these two. -/

namespace Sys2Proof.Machine

variable {s t : State} {i : Instr} {o : OutTags} {cmd : Byte}

/-- The rows of R191 and R201: a command with work, the start of its work, its device step. -/
inductive WorkRow : Byte → (State → State) → (State → State) → Prop
  | wr : WorkRow 0x01 startWr deviceWr
  | rd : WorkRow 0x02 startRd deviceRead
  | rdb : WorkRow 0x0C startRdb deviceRead
  | sns : WorkRow 0x04 startSns deviceSns
  | erg : WorkRow 0x17 startMotion deviceErg
  | wtm : WorkRow 0x1F startMotion deviceWtm
  | bsb : WorkRow 0x27 startMotion deviceBsb
  | bsf : WorkRow 0x2F startMotion deviceBsf
  | fsb : WorkRow 0x37 startMotion deviceFsb
  | fsf : WorkRow 0x3F startMotion deviceFsf

/-- What the instruction `i` makes of `s`: the commands by their two shapes, the tag events by their rule. -/
inductive Meaning (i : Instr) (s : State) : State → Prop
  | concluded (c : Byte) : Meaning i s (concludedCommand c s)
  | work {c : Byte} {start device : State → State} (row : WorkRow c start device) (own : byteOfInstr i = some c) :
      Meaning i s (workCommand c start device s)
  | reset : Meaning i s (s.mapCtx resetCtx)
  | halted (o : OutTags) : Meaning i s (halt o s)
  | selected : Meaning i s (addressedSelection s)
  | chained : Meaning i s (chainedAddress s)
  | polled (sup : Bool) : Meaning i s (answerPoll sup s)
  | abandoned (h : s.ctx.state = .select) (h' : s.ctx.phase = .pAddrWait) :
      Meaning i s (s.mapCtx fun c => toRest { c with selected := false, phase := .pNone })
  | addressDropped (h : s.ctx.state = .select) (h' : s.ctx.phase = .pAddrWait) :
      Meaning i s (s.mapCtx (toPhase .pAddrIn))
  | commandOut : Meaning i s (commandOut s)
  | commandDropped : Meaning i s (s.mapCtx commandDrop)
  | serviceOut (sup : Bool) : Meaning i s (s.mapCtx (serviceOut sup s.busOut))
  | stacked : Meaning i s (s.mapCtx stackStatus)
  | stopped : Meaning i s (s.mapCtx stopTransfer)
  | ackDropped (o : OutTags) : Meaning i s (ackDrop o s)
  | busyEnded : Meaning i s (endBusy s)
  | quiet (o : OutTags) : Meaning i s (quietStep o s)
  | held : Meaning i s s

theorem abandon_meaning (i : Instr) (s : State) :
    Meaning i s
      (if s.ctx.state = .select ∧ s.ctx.phase = .pAddrWait then
        s.mapCtx fun c => toRest { c with selected := false, phase := .pNone }
      else s) := by
  split
  · next h => exact .abandoned h.1 h.2
  · exact .held

theorem addressDrop_meaning (i : Instr) (s : State) :
    Meaning i s
      (if s.ctx.state = .select ∧ s.ctx.phase = .pAddrWait then s.mapCtx (toPhase .pAddrIn) else s) := by
  split
  · next h => exact .addressDropped h.1 h.2
  · exact .held

/-- `exec` runs one of the meanings, whatever the instruction. -/
theorem exec_meaning (h : exec i s = .next t) : Meaning i s t := by
  cases i <;> injection h with h <;> subst h
  case wr => exact .work .wr rfl
  case rd => exact .work .rd rfl
  case rdb => exact .work .rdb rfl
  case sns => exact .work .sns rfl
  case erg => exact .work .erg rfl
  case wtm => exact .work .wtm rfl
  case bsb => exact .work .bsb rfl
  case bsf => exact .work .bsf rfl
  case fsb => exact .work .fsb rfl
  case fsf => exact .work .fsf rfl
  case tio | ctl | illegal | rew | run => exact .concluded _
  case ereset => exact .reset
  case ehalt => exact .halted _
  case esel => exact .selected
  case echain => exact .chained
  case epoll => exact .polled _
  case eabandon => exact abandon_meaning _ _
  case eadrop => exact addressDrop_meaning _ _
  case ecmd => exact .commandOut
  case ecmddrop => exact .commandDropped
  case eaccept => exact .serviceOut _
  case estack => exact .stacked
  case estop => exact .stopped
  case eackdrop => exact .ackDropped _
  case ebusyendSel0 | ebusyendAdr0 => exact .busyEnded
  case hold => exact .quiet _

/-- The decoder of the command byte loses nothing (R84, R85). -/
theorem byteOfInstr_instrOfByte : ∀ c : Byte, byteOfInstr (instrOfByte c) = some c := by decide

/-- The byte of a command is the only one that decodes to it. -/
theorem eq_of_instrOfByte {c d : Byte} (h : instrOfByte c = i) (hd : byteOfInstr i = some d) : c = d := by
  subst h
  exact Option.some.inj ((byteOfInstr_instrOfByte c).symm.trans hd)

/-- A command either has a row, which `startCurrent` and `deviceOf` run, or neither does anything (R191, R201). -/
theorem row_or_none (c : Byte) :
    (∃ start device, WorkRow c start device ∧ deviceOf c = device ∧
      ∀ o s, s.ctx.currentCommand = c → startCurrent o s = start (beginWork o s)) ∨
    (deviceOf c = id ∧ ∀ o s, s.ctx.currentCommand = c → startCurrent o s = s) := by
  cases h : instrOfByte c
  case wr | rd | rdb | sns | erg | wtm | bsb | bsf | fsb | fsf =>
    obtain rfl := eq_of_instrOfByte h rfl
    exact .inl ⟨_, _, by constructor, rfl, fun o s hs => by rw [startCurrent, hs]; rfl⟩
  all_goals exact .inr ⟨by rw [deviceOf, h], fun o s hs => by rw [startCurrent, hs, h]⟩

/-- The device step of `currentCommand` is the one of its row, and nothing for a command without a row (R201). -/
theorem deviceOf_row (c : Byte) : deviceOf c = id ∨ ∃ start, WorkRow c start (deviceOf c) := by
  obtain ⟨start, device, row, rfl, -⟩ | ⟨h, -⟩ := row_or_none c
  · exact .inr ⟨start, row⟩
  · exact .inl h

/-- The start of `currentCommand` is the one of its row, and nothing for a command without a row (R191). -/
theorem startCurrent_row (o : OutTags) (s : State) :
    startCurrent o s = s ∨
      ∃ start device, WorkRow s.ctx.currentCommand start device ∧ startCurrent o s = start (beginWork o s) := by
  obtain ⟨start, device, row, -, h⟩ | ⟨-, h⟩ := row_or_none s.ctx.currentCommand
  · exact .inr ⟨start, device, row, h o s rfl⟩
  · exact .inl (h o s rfl)

end Sys2Proof.Machine
end

section
/-! O16: the frame of every instruction, put together from the frames of the shared operations (Laws/Frame.lean). -/

namespace Sys2Proof.Machine

variable {s t v : State} {c : Byte} {o : OutTags} {start device : State → State}

theorem OnlyCurrent.thenBegin (h : OnlyCurrent s t) (o : OutTags) : OnlyCurrent s (beginWork o t) := h.thenCtx _ rfl

theorem WorkRow.start_frame (row : WorkRow c start device) (h : OnlyCurrent s t) : OnlyCurrent s (start t) := by
  cases row
  case wr => exact startWr_frame h
  case rd => exact startRd_frame h
  case rdb => exact startRdb_frame h
  case sns => exact startSns_frame h
  all_goals exact startMotion_frame h

theorem WorkRow.device_frame (row : WorkRow c start device) (h : OnlyCurrent s t) : OnlyCurrent s (device t) := by
  cases row
  case wr => exact deviceWr_frame h
  case rd | rdb => exact deviceRead_frame h
  case sns => exact deviceSns_frame h
  case erg => exact endMotion_frame h
  case wtm => exact deviceWtm_frame h
  case bsb => exact deviceBsb_frame h
  case bsf => exact deviceBsf_frame h
  case fsb => exact deviceFsb_frame h
  case fsf => exact deviceFsf_frame h

theorem concludedCommand_frame (c : Byte) (s : State) : OnlyCurrent s (concludedCommand c s) := by
  have held := OnlyCurrent.refl s
  unfold concludedCommand
  split
  · split
    · exact capture_frame held
    · exact held
  · split
    · split
      · exact endAccepted_frame held
      · exact held
    · exact held
  · exact operate_frame held fun _ h => h
  · exact held

theorem WorkRow.command_frame (row : WorkRow c start device) (s : State) :
    OnlyCurrent s (workCommand c start device s) := by
  have held := OnlyCurrent.refl s
  unfold workCommand
  split
  · split
    · exact capture_frame held
    · exact held
  · split
    · split
      · exact endAccepted_frame held
      · exact row.start_frame (held.thenBegin _)
    · exact held
  · exact operate_frame held fun _ h => row.device_frame h
  · exact held

theorem commandDrop_address (c : Ctx) : (commandDrop c).address = c.address := by
  unfold commandDrop; split <;> rfl

theorem serviceOut_address (sup : Bool) (w : BusWord) (c : Ctx) : (serviceOut sup w c).address = c.address := by
  unfold serviceOut captureByte
  split
  case h_5 => split <;> rfl
  all_goals rfl

theorem stackStatus_address (c : Ctx) : (stackStatus c).address = c.address := by
  unfold stackStatus; split <;> rfl

theorem stopTransfer_address (c : Ctx) : (stopTransfer c).address = c.address := by
  unfold stopTransfer; split <;> rfl

theorem stackDrop_address (c : Ctx) : (stackDrop c).address = c.address := by
  unfold stackDrop; split <;> rfl

theorem selectByState_address (u : Nat) (c : Ctx) : (selectByState u c).address = c.address := by
  unfold selectByState
  cases c.state <;> dsimp only
  case idle | wait | ready => split <;> rfl
  all_goals rfl

theorem commandOut_frame (s : State) : OnlyCurrent s (commandOut s) := by
  have held := OnlyCurrent.refl s
  unfold commandOut
  split
  case h_1 => exact capture_frame held
  case h_6 => exact held
  all_goals exact held.thenCtx _ rfl

theorem startCurrent_frame (h : OnlyCurrent s t) (o : OutTags) : OnlyCurrent s (startCurrent o t) := by
  obtain he | ⟨start, device, row, he⟩ := startCurrent_row o t <;> rw [he]
  · exact h
  · exact row.start_frame (h.thenBegin o)

theorem byteDone_frame (o : OutTags) (s : State) : OnlyCurrent s (byteDone o s) := by
  unfold byteDone
  dsimp only
  split
  · exact enterDataEnd_frame ((OnlyCurrent.refl s).thenCtx _ rfl)
  · exact ((OnlyCurrent.refl s).thenCtx _ rfl).thenCtx _ rfl

theorem ackDrop_frame (o : OutTags) (s : State) : OnlyCurrent s (ackDrop o s) := by
  have held := OnlyCurrent.refl s
  unfold ackDrop
  split
  · split
    · exact endAccepted_frame held
    · exact startCurrent_frame held o
  · exact byteDone_frame o s
  · exact byteDone_frame o s
  · exact held.thenCtx _ rfl
  · exact endAccepted_frame held
  · split
    · exact held.thenCtx _ (stackDrop_address _)
    · exact held
  · exact held

theorem haltTransfer_frame (h : OnlyCurrent s t) : OnlyCurrent s (haltTransfer t) := enterDataEnd_frame (h.thenCtx _ rfl)

theorem haltByState_frame (st : CState) (ph : Phase) (h : OnlyCurrent s t) : OnlyCurrent s (haltByState o st ph t) := by
  unfold haltByState
  cases st <;> dsimp only
  case select | command | wait => exact h.thenCtx _ rfl
  case initStatus =>
    split
    · exact endAccepted_frame h
    · exact endData_frame h
  case operate | dataIn | dataOut | request => exact haltTransfer_frame h
  case dataEnd | idle => exact h
  case ending =>
    split
    · exact h.thenCtx _ rfl
    · split
      · exact endAccepted_frame h
      · exact h
  case ready =>
    split
    · exact h.thenCtx _ rfl
    · split
      · exact h.thenCtx _ rfl
      · exact h
  case stack =>
    split
    · exact h.thenCtx _ rfl
    · exact h

theorem halt_frame (o : OutTags) (s : State) : OnlyCurrent s (halt o s) := by
  unfold halt
  split
  · exact haltByState_frame _ _ ((OnlyCurrent.refl s).thenCtx _ rfl)
  · exact .refl s

theorem addressedSelection_frame (s : State) : OnlyCurrent s (addressedSelection s) := by
  unfold addressedSelection
  split
  · split
    · exact (OnlyCurrent.refl s).thenCtx _ (selectByState_address _ _)
    · exact .refl s
  · exact .refl s

theorem chainedAddress_frame (s : State) : OnlyCurrent s (chainedAddress s) := by
  unfold chainedAddress
  split
  · exact (OnlyCurrent.refl s).thenCtx _ (by split <;> rfl)
  · exact .refl s

theorem answerPoll_frame (sup : Bool) (s : State) : OnlyCurrent s (answerPoll sup s) := by
  have held := OnlyCurrent.refl s
  unfold answerPoll
  split
  · split
    · exact held.thenCtx _ rfl
    · exact held.thenCtx _ (by split <;> rfl)
    · exact held.thenCtx _ (by split <;> rfl)
    · split
      · exact held.thenCtx _ rfl
      · split
        · exact held.thenCtx _ rfl
        · exact held
    · exact held
  · exact held

theorem endBusy_frame (s : State) : OnlyCurrent s (endBusy s) := by
  unfold endBusy
  split
  · exact (OnlyCurrent.refl s).thenCtx _ rfl
  · exact .refl s

theorem gateRequest_address (o : OutTags) (c : Ctx) : (gateRequest o c).address = c.address := by
  unfold gateRequest
  split
  · rfl
  · split <;> rfl

theorem restOrChained_address (o : OutTags) (c : Ctx) : (restOrChained o c).address = c.address := by
  unfold restOrChained chainedWait restStep
  split
  · split
    · split <;> rfl
    · rfl
  · split
    · split <;> rfl
    · rfl

theorem quietStep_frame (o : OutTags) (s : State) : OnlyCurrent s (quietStep o s) := by
  have held := OnlyCurrent.refl s
  unfold quietStep
  cases s.ctx.state <;> dsimp only
  case idle | wait | ready => exact held.thenCtx _ (restOrChained_address _ _)
  case operate =>
    split
    · exact operate_frame held fun _ h => deviceOf_frame _ h
    · exact held
  case request =>
    split
    · exact held.thenCtx _ rfl
    · exact held
  case dataEnd | stack =>
    split
    · exact held
    · exact held.thenCtx _ (gateRequest_address _ _)
  all_goals exact held

/-- Settles O16: each meaning of an instruction keeps the frame. -/
theorem onlyOwnContext : Obligations.OnlyOwnContext := by
  intro i s t h
  cases exec_meaning h with
  | concluded c => exact concludedCommand_frame c s
  | work row _ => exact row.command_frame s
  | reset => exact (OnlyCurrent.refl s).thenCtx _ rfl
  | halted o => exact halt_frame o s
  | selected => exact addressedSelection_frame s
  | chained => exact chainedAddress_frame s
  | polled sup => exact answerPoll_frame sup s
  | abandoned _ _ => exact (OnlyCurrent.refl s).thenCtx _ rfl
  | addressDropped _ _ => exact (OnlyCurrent.refl s).thenCtx _ rfl
  | commandOut => exact commandOut_frame s
  | commandDropped => exact (OnlyCurrent.refl s).thenCtx _ (commandDrop_address _)
  | serviceOut sup => exact (OnlyCurrent.refl s).thenCtx _ (serviceOut_address _ _ _)
  | stacked => exact (OnlyCurrent.refl s).thenCtx _ (stackStatus_address _)
  | stopped => exact (OnlyCurrent.refl s).thenCtx _ (stopTransfer_address _)
  | ackDropped o => exact ackDrop_frame o s
  | busyEnded => exact endBusy_frame s
  | quiet o => exact quietStep_frame o s
  | held => exact .refl s

end Sys2Proof.Machine
end

section
/-! O12: where a machine starts. -/

namespace Sys2Proof.Machine

/-- Every controller of a legal registry has 1 to 16 sub-units (R7, R302). -/
theorem nunits_of_legalRegistry {es : List RegEntry} (h : legalRegistry es = true) :
    ∀ e ∈ es, 1 ≤ e.nunits ∧ e.nunits ≤ 16 := by
  induction es with
  | nil => simp
  | cons e es ih =>
    simp only [legalRegistry, Bool.and_eq_true, decide_eq_true_eq] at h
    obtain ⟨⟨⟨hlow, hhigh, -⟩, -⟩, hes⟩ := h
    exact List.forall_mem_cons.mpr ⟨⟨hlow, hhigh⟩, ih hes⟩

/-- Every controller of a machine of a legal configuration has 1 to 16 sub-units. -/
theorem nunits_of_legal {s : State} (h : s.legal = true) {k : Controller} (hk : k ∈ s.controllers) :
    1 ≤ k.entry.nunits ∧ k.entry.nunits ≤ 16 := by
  simp only [State.legal, Bool.and_eq_true] at h
  exact nunits_of_legalRegistry h.2 _ (List.mem_map_of_mem hk)

/-- The controllers of an attached machine are those of its registry, at attach (R340). -/
theorem attached_controllers (p : Params) (e : RegEntry) (es : List RegEntry) :
    (State.attached p e es).controllers = (e :: es).map fun k => ⟨k, Ctx.attach k p.nsense⟩ := rfl

/-- The registers at attach meet the invariants of a controller that has a sub-unit. -/
theorem attach_inv (p : Params) {e : RegEntry} (h : 1 ≤ e.nunits) : CtxInv p ⟨e, Ctx.attach e p.nsense⟩ := by
  constructor <;> simp [Ctx.attach, phaseFits, holdsBus, inOperation, maskFits]
  all_goals omega

/-- The registers at attach have every unused bit clear. -/
theorem attach_unused (e : RegEntry) (n : Nat) : UnusedBitsClear (Ctx.attach e n) := by
  have hzero : ∀ b ∈ List.replicate n (0 : Byte), b = 0 := fun b hb => List.eq_of_mem_replicate hb
  refine ⟨by simp [Ctx.attach], ?_, fun b hb => hzero b (List.mem_of_mem_tail hb)⟩
  cases n <;> simp [Ctx.attach, List.replicate_succ]

/-- Settles O12: every controller of an attached machine is at its attach values, which meet each of the three. -/
theorem resetInv : Obligations.ResetInv := by
  refine ⟨⟨by decide, rfl⟩, fun p e es hlegal => ⟨?_, ?_, ?_⟩⟩
  · intro k hk
    have hn := (nunits_of_legal hlegal hk).1
    rw [attached_controllers] at hk
    obtain ⟨r, -, rfl⟩ := List.mem_map.mp hk
    exact attach_inv p hn
  · have hnone : (State.attached p e es).controllers.filter (fun k => k.ctx.selected) = [] := by
      rw [attached_controllers, List.filter_eq_nil_iff]
      intro k hk
      obtain ⟨r, -, rfl⟩ := List.mem_map.mp hk
      exact Bool.false_ne_true
    simp [Exclusive, hnone]
  · intro k hk
    rw [attached_controllers] at hk
    obtain ⟨r, -, rfl⟩ := List.mem_map.mp hk
    exact attach_unused r p.nsense

end Sys2Proof.Machine
end


section
/-! The background tick keeps what each of its parts keeps (R252), and what a step runs after it. -/

namespace Sys2Proof.Machine

variable {P : State → Prop} {s t : State}

/-- The tick of all sub-units keeps what the tick of each one keeps. -/
theorem tickUnits_keeps (hs : P s) (hunit : ∀ t u, u < s.nunits → P t → P (tickUnit t u)) : P (tickUnits s) := by
  refine List.foldlRecOn _ tickUnit hs fun t ht u hu => hunit t u (List.mem_range.mp hu) ht

/-- The tick keeps what a write of `bgCounter` and the tick of each sub-unit keep. -/
theorem tick_keeps (hs : P s) (hcount : ∀ t n, P t → P (t.mapCtx fun c => { c with bgCounter := n }))
    (hunit : ∀ t u, u < s.nunits → P t → P (tickUnit t u)) : P (tick s) := by
  unfold tick
  split
  · exact hs
  · split
    · exact hcount s _ hs
    · exact hcount _ _ (tickUnits_keeps hs hunit)

theorem tickUnit_frame (h : OnlyCurrent s t) (u : Nat) : OnlyCurrent s (tickUnit t u) := by
  unfold tickUnit
  dsimp only
  split
  · split
    · split
      · exact h.thenCall _ _
      · exact h.thenCall _ _
      · exact (h.thenCall _ _).thenCtx _ rfl
      · exact (h.thenCall _ _).thenCtx _ rfl
    · exact h.thenCtx _ rfl
  · exact h

theorem tick_frame (s : State) : OnlyCurrent s (tick s) :=
  tick_keeps (.refl s) (fun _ _ h => h.thenCtx _ rfl) fun _ u _ h => tickUnit_frame h u

/-- The turn passes on and the controllers stay as they are (R110). -/
theorem advance_controllers (s : State) : (advance s).controllers = s.controllers := by
  unfold advance State.controllers
  cases ha : s.after with
  | cons k ks => simp
  | nil => cases hb : s.before <;> simp

@[simp] theorem advance_params (s : State) : (advance s).params = s.params := by
  unfold advance
  cases s.after with
  | cons k ks => rfl
  | nil => cases s.before <;> rfl

/-- A step is taken in a legal configuration: the tick, one instruction, and the turn passes on (R113). -/
theorem step_next (h : step s = .next t) :
    s.legal = true ∧ ∃ v, exec (tick s).current (tick s) = .next v ∧ t = advance v := by
  unfold step at h
  split at h
  · next hlegal =>
    split at h <;> cases h
    next v hv => exact ⟨hlegal, v, hv, rfl⟩
  · cases h

end Sys2Proof.Machine
end

section
/-! O14: who holds the bus. No rule raises `selected` while another controller shows Operational-In (R119). -/

namespace Sys2Proof.Machine

variable {s t : State} {i : Instr} {x : Byte} {o : OutTags} {k : CodecCall} {c : Byte} {start device : State → State}

/-! ## The work of a command writes `selected` only by `keepBus` -/

@[simp] theorem closeRecord_selected (s : State) : (closeRecord s).ctx.selected = s.ctx.selected := by
  unfold closeRecord
  dsimp only
  split
  · split
    · rfl
    · split <;> rfl
    · rfl
    · rfl
  · rfl

@[simp] theorem enterDataEnd_selected (s : State) : (enterDataEnd s).ctx.selected = s.ctx.selected := by
  simp [enterDataEnd, presentEnding_eq, withholdDeviceEnd_eq, addUnitCheck_eq]

@[simp] theorem endData_selected (x : Byte) (s : State) : (endData x s).ctx.selected = s.ctx.selected := by
  simp [endData]

@[simp] theorem endMotion_selected (s : State) : (endMotion s).ctx.selected = s.ctx.selected := by
  simp [endMotion]

@[simp] theorem offerByte_selected (s : State) : (offerByte s).ctx.selected = s.ctx.selected := by
  rw [offerByte_eq]; cases h : s.ctx.selected <;> simp [h]

@[simp] theorem requestByte_selected (s : State) : (requestByte s).ctx.selected = s.ctx.selected := by
  rw [requestByte_eq]; cases h : s.ctx.selected <;> simp [h]

@[simp] theorem drawOverrun_selected (s : State) : (drawOverrun s).ctx.selected = s.ctx.selected := by
  rw [drawOverrun_eq]; cases s.nextLate <;> rfl

@[simp] theorem senseCurrent_selected (m : Byte) (c : Ctx) : (senseCurrent m c).selected = c.selected := rfl

@[simp] theorem fetchSense_selected (s : State) : (fetchSense s).ctx.selected = s.ctx.selected := by
  unfold fetchSense
  dsimp only
  split <;> rfl

theorem openWrite_selected (s : State) : (startWr.openWrite s).ctx.selected = s.ctx.selected := by
  unfold startWr.openWrite
  cases h : s.ctx.selected <;> simp [h]

theorem WorkRow.start_selected (row : WorkRow c start device) (s : State) :
    (start s).ctx.selected = s.ctx.selected := by
  cases row
  case wr => unfold startWr; dsimp only; split <;> simp [openWrite_selected]
  case rd => unfold startRd; dsimp only; split <;> simp [openRead]
  case rdb => unfold startRdb; dsimp only; split <;> simp [openRead]
  all_goals rfl

theorem WorkRow.device_selected (row : WorkRow c start device) (s : State) :
    (device s).ctx.selected = s.ctx.selected := by
  cases row
  case wr =>
    unfold deviceWr
    dsimp only
    split
    · split <;> simp
    · simp
  case rd | rdb =>
    unfold deviceRead
    dsimp only
    split
    · simp
    · split <;> simp
  case sns =>
    unfold deviceSns
    split
    · simp
    · split <;> simp
  case erg => exact endMotion_selected s
  case wtm => unfold deviceWtm; dsimp only; split <;> simp
  case bsb => unfold deviceBsb; dsimp only; split <;> simp
  case bsf => unfold deviceBsf nextRecord; dsimp only; split <;> simp
  case fsb => unfold deviceFsb; dsimp only; split <;> simp
  case fsf => unfold deviceFsf nextRecord; dsimp only; split <;> simp

theorem operate_selected {device : State → State} (hd : ∀ v, (device v).ctx.selected = v.ctx.selected) (o : OutTags)
    (s : State) : (operate o device s).ctx.selected = (s.ctx.selected && o.stay) := by
  unfold operate
  dsimp only
  split
  · rfl
  · rw [hd]; rfl

theorem captureTable_selected (cmd : Byte) (w : BusWord) (d : DevCond) (c : Ctx) :
    (captureTable cmd w d c).selected = c.selected := by
  unfold captureTable
  repeat' split
  all_goals rfl

theorem capture_selected (cmd : Byte) (s : State) : (capture cmd s).ctx.selected = s.ctx.selected :=
  captureTable_selected _ _ _ _

/-! ## The tag events that do not take the bus -/

theorem commandDrop_selected (c : Ctx) : (commandDrop c).selected = c.selected := by
  unfold commandDrop; split <;> rfl

theorem serviceOut_selected (sup : Bool) (w : BusWord) (c : Ctx) : (serviceOut sup w c).selected = c.selected := by
  unfold serviceOut captureByte
  split
  case h_5 => split <;> rfl
  all_goals rfl

theorem stackStatus_selected (c : Ctx) : (stackStatus c).selected = c.selected := by
  unfold stackStatus; split <;> rfl

theorem stopTransfer_selected (c : Ctx) : (stopTransfer c).selected = c.selected := by
  unfold stopTransfer; split <;> rfl

theorem commandOut_selected (s : State) : (commandOut s).ctx.selected = s.ctx.selected := by
  unfold commandOut
  split
  case h_1 => exact capture_selected _ s
  all_goals rfl

theorem endBusy_selected (s : State) : (endBusy s).ctx.selected = s.ctx.selected := by
  unfold endBusy; split <;> rfl

theorem gateRequest_selected (o : OutTags) (c : Ctx) : (gateRequest o c).selected = c.selected := by
  unfold gateRequest
  split
  · rfl
  · split <;> rfl

/-! ## Where `selected` comes from -/

/-- `t` holds the bus only if `s` held it (R118). -/
def KeepsOrReleases (s t : State) : Prop := t.ctx.selected = true → s.ctx.selected = true

/-- `t` holds the bus only if `s` held it, or found it free (R119). -/
def TakesOnlyFree (s t : State) : Prop := t.ctx.selected = true → s.ctx.selected = true ∨ s.busFree = true

theorem KeepsOrReleases.of_eq (h : t.ctx.selected = s.ctx.selected) : KeepsOrReleases s t := fun ht => h ▸ ht

theorem KeepsOrReleases.mapCtx {f : Ctx → Ctx} (h : (f s.ctx).selected = s.ctx.selected) :
    KeepsOrReleases s (s.mapCtx f) := .of_eq h

theorem KeepsOrReleases.released (h : t.ctx.selected = false) : KeepsOrReleases s t := fun ht =>
  absurd (h.symm.trans ht) Bool.false_ne_true

theorem KeepsOrReleases.of_and {b : Bool} (h : t.ctx.selected = (s.ctx.selected && b)) : KeepsOrReleases s t := fun ht =>
  (Bool.and_eq_true_iff.mp (h ▸ ht)).1

theorem KeepsOrReleases.takes (h : KeepsOrReleases s t) : TakesOnlyFree s t := fun ht => .inl (h ht)

/-- The end-accepted rule keeps the bus only for a chain (R274). -/
theorem endAccepted_bus (o : OutTags) (s : State) : KeepsOrReleases s (endAccepted o s) := by
  rw [endAccepted_eq]
  intro h
  simp only [State.setCtx_ctx, concludedCtx, Bool.and_eq_true] at h
  exact h.1.2

theorem WorkRow.begin_bus (row : WorkRow c start device) (o : OutTags) (s : State) :
    KeepsOrReleases s (start (beginWork o s)) := .of_and (row.start_selected _)

theorem concludedCommand_bus (c : Byte) (s : State) : KeepsOrReleases s (concludedCommand c s) := by
  have held : KeepsOrReleases s s := .of_eq rfl
  unfold concludedCommand
  split
  · split
    · exact .of_eq (capture_selected _ s)
    · exact held
  · split
    · split
      · exact endAccepted_bus _ s
      · exact held
    · exact held
  · exact .of_and (operate_selected (fun _ => rfl) _ s)
  · exact held

theorem WorkRow.command_bus (row : WorkRow c start device) (s : State) :
    KeepsOrReleases s (workCommand c start device s) := by
  have held : KeepsOrReleases s s := .of_eq rfl
  unfold workCommand
  split
  · split
    · exact .of_eq (capture_selected _ s)
    · exact held
  · split
    · split
      · exact endAccepted_bus _ s
      · exact row.begin_bus _ s
    · exact held
  · exact .of_and (operate_selected row.device_selected _ s)
  · exact held

theorem byteDone_bus (o : OutTags) (s : State) : KeepsOrReleases s (byteDone o s) := by
  refine .of_and (b := o.stay) ?_
  unfold byteDone
  dsimp only
  split <;> simp

theorem ackDrop_bus (o : OutTags) (s : State) : KeepsOrReleases s (ackDrop o s) := by
  have held : KeepsOrReleases s s := .of_eq rfl
  unfold ackDrop
  split
  · split
    · exact endAccepted_bus o s
    · obtain he | ⟨start, device, row, he⟩ := startCurrent_row o s <;> rw [he]
      · exact held
      · exact row.begin_bus o s
  · exact byteDone_bus o s
  · exact byteDone_bus o s
  · exact .released rfl
  · exact endAccepted_bus o s
  · split
    · refine .released ?_
      rw [State.mapCtx_ctx, stackDrop]
      split <;> rfl
    · exact held
  · exact held

/-- Halt-in-flight releases the bus before it does anything else (R140). -/
theorem haltByState_selected (o : OutTags) (st : CState) (ph : Phase) (h : s.ctx.selected = false) :
    (haltByState o st ph s).ctx.selected = false := by
  have hend : (endAccepted o s).ctx.selected = false := by
    simpa [h] using mt (endAccepted_bus o s)
  have htransfer : (haltTransfer s).ctx.selected = false := (enterDataEnd_selected _).trans h
  unfold haltByState
  cases st <;> dsimp only
  case select | command | wait | dataEnd | idle => exact h
  case initStatus =>
    split
    · exact hend
    · rwa [endData_selected]
  case operate | dataIn | dataOut | request => exact htransfer
  case ending =>
    split
    · exact h
    · split
      · exact hend
      · exact h
  case ready =>
    split
    · rfl
    · split <;> exact h
  case stack => split <;> exact h

theorem halt_bus (o : OutTags) (s : State) : KeepsOrReleases s (halt o s) := by
  unfold halt
  split
  · exact .released (haltByState_selected _ _ _ rfl)
  · exact .of_eq rfl

theorem chainedAddress_bus (s : State) : KeepsOrReleases s (chainedAddress s) := by
  unfold chainedAddress
  split
  · next h => exact fun _ => by simp_all
  · exact .of_eq rfl

theorem restOrChained_bus (o : OutTags) (c : Ctx) (h : (restOrChained o c).selected = true) : c.selected = true := by
  by_contra hc
  simp only [restOrChained, hc, if_false] at h
  split at h
  · unfold restStep at h
    split at h <;> exact hc h
  · exact hc h

theorem quietStep_bus (o : OutTags) (s : State) : KeepsOrReleases s (quietStep o s) := by
  have held : KeepsOrReleases s s := .of_eq rfl
  unfold quietStep
  cases s.ctx.state <;> dsimp only
  case idle | wait | ready => exact restOrChained_bus o s.ctx
  case operate =>
    split
    · obtain he | ⟨start, row⟩ := deviceOf_row s.ctx.currentCommand
      · exact .of_and (operate_selected (by simp [he]) _ s)
      · exact .of_and (operate_selected row.device_selected _ s)
    · exact held
  case request => split <;> exact held
  case dataEnd | stack =>
    split
    · exact held
    · exact .of_eq (gateRequest_selected _ _)
  all_goals exact held

/-! ## The two that take it, when it is free -/

theorem addressedSelection_bus (s : State) : TakesOnlyFree s (addressedSelection s) := by
  unfold addressedSelection
  split
  · next h => exact fun _ => .inr (by simp_all)
  · exact .inl

theorem answerPoll_bus (sup : Bool) (s : State) : TakesOnlyFree s (answerPoll sup s) := by
  unfold answerPoll
  split
  · next h => exact fun _ => .inr (by simp_all)
  · exact .inl

/-- Whatever the instruction, a controller that comes to hold the bus found it free (R119). -/
theorem Meaning.bus (h : Meaning i s t) : TakesOnlyFree s t := by
  cases h with
  | concluded c => exact (concludedCommand_bus c s).takes
  | work row _ => exact (row.command_bus s).takes
  | reset => exact (KeepsOrReleases.released rfl).takes
  | halted o => exact (halt_bus o s).takes
  | selected => exact addressedSelection_bus s
  | chained => exact (chainedAddress_bus s).takes
  | polled sup => exact answerPoll_bus sup s
  | abandoned _ _ => exact (KeepsOrReleases.released rfl).takes
  | addressDropped _ _ => exact .inl
  | commandOut => exact (KeepsOrReleases.of_eq (commandOut_selected s)).takes
  | commandDropped => exact (KeepsOrReleases.mapCtx (commandDrop_selected _)).takes
  | serviceOut sup => exact (KeepsOrReleases.mapCtx (serviceOut_selected _ _ _)).takes
  | stacked => exact (KeepsOrReleases.mapCtx (stackStatus_selected _)).takes
  | stopped => exact (KeepsOrReleases.mapCtx (stopTransfer_selected _)).takes
  | ackDropped o => exact (ackDrop_bus o s).takes
  | busyEnded => exact (KeepsOrReleases.of_eq (endBusy_selected s)).takes
  | quiet o => exact (quietStep_bus o s).takes
  | held => exact .inl

/-! ## At most one holder -/

theorem tickUnit_selected (s : State) (u : Nat) : (tickUnit s u).ctx.selected = s.ctx.selected := by
  unfold tickUnit
  dsimp only
  split
  · split
    · split <;> rfl
    · rfl
  · rfl

theorem tick_bus (s : State) : KeepsOrReleases s (tick s) :=
  tick_keeps (P := KeepsOrReleases s) (.of_eq rfl) (fun _ _ h => h) fun t u _ h ht => h (tickUnit_selected t u ▸ ht)

/-- With the bus free no other controller is selected (R119). -/
theorem selected_of_busFree (h : s.busFree = true) (ks : List Controller) (hks : ks ⊆ s.before ++ s.after) :
    ks.filter (fun k => k.ctx.selected) = [] :=
  List.filter_eq_nil_iff.mpr fun k hk => by simp [((busFree_iff s).mp h k (hks hk)).1]

/-- At most one controller stays selected when only the current one changes and takes the bus only when it is free. -/
theorem Exclusive.keep (h : Exclusive s) (hf : OnlyCurrent s t) (hb : TakesOnlyFree s t) : Exclusive t := by
  unfold Exclusive State.controllers at *
  rw [hf.before, hf.after]
  simp only [List.filter_append, List.filter_cons, List.length_append] at *
  change _ + (if t.ctx.selected = true then _ else _ : List Controller).length ≤ 1
  change _ + (if s.ctx.selected = true then _ else _ : List Controller).length ≤ 1 at h
  split
  · next ht =>
    obtain hs | hfree := hb ht
    · simpa [hs] using h
    · simp [selected_of_busFree hfree s.before (by simp), selected_of_busFree hfree s.after (by simp)]
  · split at h
    · exact le_trans (by simp) h
    · exact h

/-- Settles O14: the tick and the instruction change the current controller only, which takes the bus only when it is
free; the turn passing on changes no controller. -/
theorem stepKeepsExclusive : Obligations.StepKeepsExclusive := by
  intro s t h hstep
  obtain ⟨-, v, hexec, rfl⟩ := step_next hstep
  have htick : Exclusive (tick s) := h.keep (tick_frame s) (tick_bus s).takes
  have hv : Exclusive v := htick.keep (onlyOwnContext _ _ _ hexec) (exec_meaning hexec).bus
  unfold Exclusive at *
  rwa [advance_controllers]

end Sys2Proof.Machine
end

section
/-! Sub-unit masks through `hasBit` (R72 (e)): what each update of a mask does to each bit, and the conditions of R43 and
R44 on masks bit by bit. -/

namespace Sys2Proof.Machine

variable {m k : UnitMask} {n u v : Nat}

theorem lt_sixteen_of_hasBit (h : hasBit m u = true) : u < 16 := BitVec.lt_of_getLsbD (hasBit_eq m u ▸ h)

theorem hasBit_zero (u : Nat) : hasBit 0 u = false := by simp [hasBit_eq]

theorem hasBit_bit (u v : Nat) : hasBit (bit u) v = (decide (v < 16) && decide (v = u)) := by
  rw [hasBit_eq, bit_getLsbD]

theorem hasBit_addBit (m : UnitMask) (u v : Nat) : hasBit (addBit m u) v = (hasBit m v || hasBit (bit u) v) := by
  simp only [hasBit_eq, addBit, BitVec.getLsbD_or]

theorem hasBit_dropBit (m : UnitMask) (u v : Nat) : hasBit (dropBit m u) v = (hasBit m v && !decide (v = u)) := by
  simp only [hasBit_eq, dropBit, BitVec.getLsbD_and, BitVec.getLsbD_not, bit_getLsbD]
  rcases Nat.lt_or_ge v 16 with hv | hv
  · simp [hv]
  · simp [BitVec.getLsbD_of_ge m v hv]

/-- A mask is the set of its bits. -/
theorem eq_zero_iff_hasBit : m = 0 ↔ ∀ u, hasBit m u = false := by
  refine ⟨fun h u => h ▸ hasBit_zero u, fun h => BitVec.eq_of_getLsbD_eq fun i _ => ?_⟩
  rw [← hasBit_eq, h]
  exact BitVec.getLsbD_zero.symm

/-- Two masks without a common bit. -/
theorem and_eq_zero_iff_hasBit : m &&& k = 0 ↔ ∀ u, hasBit m u = true → hasBit k u = false := by
  simp only [eq_zero_iff_hasBit, hasBit_eq, BitVec.getLsbD_and, Bool.and_eq_false_imp]

/-- A mask within another one. -/
theorem and_not_eq_zero_iff_hasBit : m &&& ~~~k = 0 ↔ ∀ u, hasBit m u = true → hasBit k u = true := by
  rw [and_eq_zero_iff_hasBit]
  refine forall_congr' fun u => imp_congr_right fun h => ?_
  simp [hasBit_eq, lt_sixteen_of_hasBit h]

/-- A mask fits in `n` bits when its bits are below `n`. -/
theorem maskFits_iff_hasBit : maskFits n m ↔ ∀ u, hasBit m u = true → u < n := by
  simp only [hasBit_eq, BitVec.getLsbD]
  refine ⟨fun h u hu => ?_, fun h => Nat.lt_pow_two_of_testBit _ fun i hi => ?_⟩
  · by_contra hn
    have := Nat.testBit_lt_two_pow (h.trans_le (Nat.pow_le_pow_right Nat.two_pos (Nat.le_of_not_lt hn)))
    simp [this] at hu
  · by_contra hb
    exact absurd (h i (by simpa using hb)) (by omega)

theorem bit_ne_zero (h : u < 16) : bit u ≠ 0 := fun h0 => by
  have := eq_zero_iff_hasBit.mp h0 u
  simp [hasBit_bit, h] at this

theorem maskFits_bit (h : u < n) : maskFits n (bit u) :=
  maskFits_iff_hasBit.mpr fun v hv => by
    simp only [hasBit_bit, Bool.and_eq_true, decide_eq_true_eq] at hv
    omega

end Sys2Proof.Machine
end

section
/-! The invariants of one context (`CtxInv`) in the form the step proof uses: the registers that no handshake writes
(`RegsFit`), and what each state says of the phase, the bus and the work (`Good`). -/

namespace Sys2Proof.Machine

/-- The registers of a context that a handshake alone leaves as they are: address, sense and sub-unit masks. -/
structure Regs where
  address : Byte
  senseBytes : List Byte
  senseIndex : Nat
  pendingUnit : UnitMask
  readyFlags : UnitMask
  busyFlags : UnitMask
  rewindFlags : UnitMask
  currentUnit : Nat
  statusUnit : Nat

def Ctx.regs (c : Ctx) : Regs where
  address := c.address
  senseBytes := c.senseBytes
  senseIndex := c.senseIndex
  pendingUnit := c.pendingUnit
  readyFlags := c.readyFlags
  busyFlags := c.busyFlags
  rewindFlags := c.rewindFlags
  currentUnit := c.currentUnit
  statusUnit := c.statusUnit

/-- The clauses of `CtxInv` on these registers, masks bit by bit, for a controller of at most 16 sub-units. -/
structure RegsFit (n : Nat) (e : RegEntry) (r : Regs) : Prop where
  units : e.nunits ≤ 16
  address : r.address = e.base
  senseLength : r.senseBytes.length = n
  senseCursor : r.senseIndex ≤ n
  rewindBusy : ∀ u, hasBit r.rewindFlags u = true → hasBit r.busyFlags u = true
  busyNotReady : ∀ u, hasBit r.busyFlags u = true → hasBit r.readyFlags u = false
  pendingIsStatusUnit : r.pendingUnit = 0 ∨ r.pendingUnit = bit r.statusUnit
  noPendingNoSense : r.pendingUnit = 0 → ∀ b ∈ r.senseBytes, b = 0
  currentUnitFits : r.currentUnit < e.nunits
  statusUnitFits : r.statusUnit < e.nunits
  readyFits : ∀ u, hasBit r.readyFlags u = true → u < e.nunits
  busyFits : ∀ u, hasBit r.busyFlags u = true → u < e.nunits

/-- A command with work is under way: its sub-unit is neither busy nor owed a device-end (R172, R201). -/
structure Executing (cmd : Byte) (r : Regs) : Prop where
  work : isWorkCommand cmd = true
  notBusy : hasBit r.busyFlags r.currentUnit = false
  notReady : hasBit r.readyFlags r.currentUnit = false

/-- Who holds the bus: a handshake's phase says it, but for OPERATE, which may hold it between handshakes, and WAIT, which
holds it for a chain (R44 (i), R286). -/
def busFits (c : Ctx) : Prop :=
  match c.state with
  | .operate => c.phase = .pBusy → c.selected = false
  | .wait => (c.phase = .pBusy → c.selected = false) ∧ (c.selected = true → c.chaining = true)
  | _ => c.selected = holdsBus c.phase

/-- An initial status is on its way (R172, R183, R190). -/
structure Initial (c : Ctx) : Prop where
  work : c.commandDone = false → isWorkCommand c.currentCommand = true
  noStatus : c.commandDone = false → c.status = 0x00
  dataOpen : c.dataEnd = false
  noByte : c.dataReady = false
  notBusy : hasBit c.busyFlags c.currentUnit = false
  notReady : c.currentCommand ≠ 0x00 → hasBit c.readyFlags c.currentUnit = false

/-- The rewind of a REW or RUN whose status is not accepted yet has not begun (R276). -/
def RewindNotBegun (c : Ctx) : Prop :=
  c.currentCommand = 0x07 ∨ c.currentCommand = 0x0F →
    hasBit c.busyFlags c.currentUnit = false ∧ hasBit c.readyFlags c.currentUnit = false

/-- What each state says of the command in it. -/
def workFits (c : Ctx) : Prop :=
  match c.state with
  | .idle => True
  | .wait => True
  | .ready => c.phase = .pReq → c.readyFlags ≠ 0
  | .select => hasBit c.busyFlags c.currentUnit = false
  | .command => Initial c
  | .initStatus => Initial c
  | .operate => Executing c.currentCommand c.regs ∧ c.dataEnd = false
  | .request => Executing c.currentCommand c.regs ∧ c.dataEnd = false
  | .dataIn =>
    Executing c.currentCommand c.regs ∧ c.currentCommand = 0x01 ∧
      (c.phase = .pService → c.dataEnd = false ∧ c.dataReady = false)
  | .dataOut => Executing c.currentCommand c.regs ∧ (c.phase = .pService → c.dataEnd = false)
  | .dataEnd => isWorkCommand c.currentCommand = true
  | .ending => RewindNotBegun c
  | .stack => RewindNotBegun c

/-- The invariants of a context, for `n` sense bytes and the registry entry `e`. -/
structure Good (n : Nat) (e : RegEntry) (c : Ctx) : Prop where
  regs : RegsFit n e c.regs
  data : ¬(c.dataReady = true ∧ c.dataEnd = true)
  phase : phaseFits c.state c.phase = true
  bus : busFits c
  work : workFits c

variable {p : Params} {k : Controller}

theorem CtxInv.regsFit (h : CtxInv p k) (hn : k.entry.nunits ≤ 16) : RegsFit p.nsense k.entry k.ctx.regs where
  units := hn
  address := h.address
  senseLength := h.senseLength
  senseCursor := h.senseCursor
  rewindBusy := and_not_eq_zero_iff_hasBit.mp h.rewindBusy
  busyNotReady := and_eq_zero_iff_hasBit.mp h.busyNotReady
  pendingIsStatusUnit := h.pendingIsStatusUnit
  noPendingNoSense := h.noPendingNoSense
  currentUnitFits := h.currentUnitFits
  statusUnitFits := h.statusUnitFits
  readyFits := maskFits_iff_hasBit.mp h.readyFits
  busyFits := maskFits_iff_hasBit.mp h.busyFits

theorem ne_zero_of_isWorkCommand {c : Byte} (h : isWorkCommand c = true) : c ≠ 0x00 := fun h0 => by
  subst h0; exact absurd h (by decide)

theorem not_rewind_of_isWorkCommand {c : Byte} (h : isWorkCommand c = true) : ¬(c = 0x07 ∨ c = 0x0F) := by
  rintro (rfl | rfl) <;> exact absurd h (by decide)

theorem CtxInv.executing (h : CtxInv p k) (hw : isWorkCommand k.ctx.currentCommand = true)
    (ho : inOperation k.ctx.state = true) : Executing k.ctx.currentCommand k.ctx.regs :=
  ⟨hw, h.currentNotBusy (.inr ho), h.currentNotReady ho (ne_zero_of_isWorkCommand hw)⟩

theorem CtxInv.busFits (h : CtxInv p k) : busFits k.ctx := by
  have hphase := h.phase
  have hbus := h.bus
  have hfree := h.free
  have hrest := h.atRest
  have hchain := h.chainedWait
  unfold Machine.busFits
  cases hs : k.ctx.state <;> cases hp : k.ctx.phase <;> simp_all [phaseFits, holdsBus]

theorem CtxInv.initial (h : CtxInv p k) (hs : k.ctx.state = .command ∨ k.ctx.state = .initStatus) : Initial k.ctx where
  work hd := h.work (by tauto)
  noStatus := h.noStatusYet hs
  dataOpen := h.dataOpen (by tauto)
  noByte := h.noByte (by tauto)
  notBusy := h.currentNotBusy (.inr (by rcases hs with hs | hs <;> rw [hs] <;> rfl))
  notReady := h.currentNotReady (by rcases hs with hs | hs <;> rw [hs] <;> rfl)

theorem CtxInv.workFits (h : CtxInv p k) : workFits k.ctx := by
  unfold Machine.workFits
  cases hs : k.ctx.state <;> dsimp only
  case ready => exact h.readyOwes hs
  case select => exact h.currentNotBusy (.inl hs)
  case command => exact h.initial (.inl hs)
  case initStatus => exact h.initial (.inr hs)
  case operate | request =>
    exact ⟨h.executing (h.work (by simp [hs])) (by rw [hs]; rfl), h.dataOpen (by simp [hs])⟩
  case dataIn =>
    refine ⟨h.executing (h.work (by simp [hs])) (by rw [hs]; rfl), h.dataInWr hs, fun hp => ?_⟩
    exact ⟨h.dataOpen (by simp [hp]), h.noByte (by simp [hs, hp])⟩
  case dataOut =>
    exact ⟨h.executing (h.work (by simp [hs])) (by rw [hs]; rfl), fun hp => h.dataOpen (by simp [hp])⟩
  case dataEnd => exact h.work (by simp [hs])
  case ending => exact h.rewindNotBegun (.inl hs)
  case stack => exact h.rewindNotBegun (.inr hs)

theorem CtxInv.good (h : CtxInv p k) (hn : k.entry.nunits ≤ 16) : Good p.nsense k.entry k.ctx :=
  ⟨h.regsFit hn, h.readyOrEnd, h.phase, h.busFits, h.workFits⟩

section
variable {n : Nat} {e : RegEntry} {c : Ctx}

/-- What a state says of the bus gives the clauses of `CtxInv` on it (R44 (i), (k), R256, R283, R286). -/
theorem Good.busClauses (h : Good n e c) :
    (holdsBus c.phase = true → c.selected = true) ∧ (c.phase = .pReq ∨ c.phase = .pBusy → c.selected = false) ∧
      ((c.state = .idle ∨ c.state = .request ∨ c.state = .dataEnd ∨ c.state = .stack ∨ c.state = .ready) →
        c.phase = .pNone → c.selected = false) ∧
      (c.state = .wait → c.selected = true → c.chaining = true) := by
  have hp := h.phase
  have hb := h.bus
  unfold busFits at hb
  cases hs : c.state <;> cases hph : c.phase <;> simp_all [phaseFits, holdsBus]

theorem Good.executing (h : Good n e c)
    (hs : c.state = .operate ∨ c.state = .request ∨ c.state = .dataIn ∨ c.state = .dataOut) :
    Executing c.currentCommand c.regs := by
  have hw := h.work
  unfold workFits at hw
  obtain hs | hs | hs | hs := hs <;> rw [hs] at hw <;> exact hw.1

theorem Good.initial (h : Good n e c) (hs : c.state = .command ∨ c.state = .initStatus) : Initial c := by
  have hw := h.work
  unfold workFits at hw
  obtain hs | hs := hs <;> rwa [hs] at hw

/-- In an operation the command is at its initial status or executing. -/
theorem Good.initial_or_executing (h : Good n e c) (ho : inOperation c.state = true) :
    ((c.state = .command ∨ c.state = .initStatus) ∧ Initial c) ∨
      ((c.state = .operate ∨ c.state = .request ∨ c.state = .dataIn ∨ c.state = .dataOut) ∧
        Executing c.currentCommand c.regs) := by
  have hs : (c.state = .command ∨ c.state = .initStatus) ∨
      (c.state = .operate ∨ c.state = .request ∨ c.state = .dataIn ∨ c.state = .dataOut) := by
    cases hs : c.state <;> simp_all [inOperation]
  exact hs.imp (fun hs => ⟨hs, h.initial hs⟩) fun hs => ⟨hs, h.executing hs⟩

theorem Good.notBusy (h : Good n e c) (ho : inOperation c.state = true) : hasBit c.busyFlags c.currentUnit = false := by
  obtain ⟨-, hi⟩ | ⟨-, hx⟩ := h.initial_or_executing ho
  · exact hi.notBusy
  · exact hx.notBusy

theorem Good.notReady (h : Good n e c) (ho : inOperation c.state = true) (hc : c.currentCommand ≠ 0x00) :
    hasBit c.readyFlags c.currentUnit = false := by
  obtain ⟨-, hi⟩ | ⟨-, hx⟩ := h.initial_or_executing ho
  · exact hi.notReady hc
  · exact hx.notReady

theorem Good.notBegun (h : Good n e c) (hs : c.state = .ending ∨ c.state = .stack) : RewindNotBegun c := by
  have hw := h.work
  unfold workFits at hw
  obtain hs | hs := hs <;> rwa [hs] at hw

theorem Good.work_of (h : Good n e c)
    (hs : c.state = .operate ∨ c.state = .request ∨ c.state = .dataIn ∨ c.state = .dataOut ∨
      c.state = .dataEnd ∨
      ((c.state = .command ∨ c.state = .initStatus) ∧ c.commandDone = false)) :
    isWorkCommand c.currentCommand = true := by
  obtain hs | hs | hs | hs | hs | ⟨hs, hd⟩ := hs
  · exact (h.executing (by simp [hs])).work
  · exact (h.executing (by simp [hs])).work
  · exact (h.executing (by simp [hs])).work
  · exact (h.executing (by simp [hs])).work
  · have hw := h.work
    unfold workFits at hw
    rwa [hs] at hw
  · exact (h.initial hs).work hd

theorem Good.dataOpen (h : Good n e c)
    (hs : c.state = .command ∨ c.state = .initStatus ∨ c.state = .operate ∨ c.state = .request ∨
      c.phase = .pService) :
    c.dataEnd = false := by
  have hw := h.work
  have hp := h.phase
  unfold workFits at hw
  cases hst : c.state <;> simp_all [phaseFits, Initial.dataOpen]

theorem Good.noByte (h : Good n e c)
    (hs : c.state = .command ∨ c.state = .initStatus ∨ (c.state = .dataIn ∧ c.phase = .pService)) :
    c.dataReady = false := by
  obtain hs | hs | ⟨hs, hp⟩ := hs
  · exact (h.initial (.inl hs)).noByte
  · exact (h.initial (.inr hs)).noByte
  · have hw := h.work
    unfold workFits at hw
    rw [hs] at hw
    exact (hw.2.2 hp).2

theorem Good.readyOwes (h : Good n e c) (hs : c.state = .ready) (hp : c.phase = .pReq) : c.readyFlags ≠ 0 := by
  have hw := h.work
  unfold workFits at hw
  rw [hs] at hw
  exact hw hp

theorem Good.selectNotBusy (h : Good n e c) (hs : c.state = .select) : hasBit c.busyFlags c.currentUnit = false := by
  have hw := h.work
  unfold workFits at hw
  rwa [hs] at hw

theorem Good.dataInWr (h : Good n e c) (hs : c.state = .dataIn) : c.currentCommand = 0x01 := by
  have hw := h.work
  unfold workFits at hw
  rw [hs] at hw
  exact hw.2.1

theorem RegsFit.pendingFits {r : Regs} (h : RegsFit n e r) : maskFits e.nunits r.pendingUnit := by
  obtain h0 | h0 := h.pendingIsStatusUnit <;> rw [h0]
  · simp [maskFits]
  · exact maskFits_bit h.statusUnitFits

end

theorem Good.ctxInv (h : Good p.nsense k.entry k.ctx) : CtxInv p k := by
  obtain ⟨hbus, hfree, hrest, hchain⟩ := h.busClauses
  exact
    { address := h.regs.address
      readyOrEnd := h.data
      senseLength := h.regs.senseLength
      senseCursor := h.regs.senseCursor
      rewindBusy := and_not_eq_zero_iff_hasBit.mpr h.regs.rewindBusy
      busyNotReady := and_eq_zero_iff_hasBit.mpr h.regs.busyNotReady
      pendingIsStatusUnit := h.regs.pendingIsStatusUnit
      noPendingNoSense := h.regs.noPendingNoSense
      currentUnitFits := h.regs.currentUnitFits
      statusUnitFits := h.regs.statusUnitFits
      pendingFits := h.regs.pendingFits
      readyFits := maskFits_iff_hasBit.mpr h.regs.readyFits
      busyFits := maskFits_iff_hasBit.mpr h.regs.busyFits
      phase := h.phase
      bus := hbus
      free := hfree
      atRest := hrest
      chainedWait := hchain
      readyOwes := h.readyOwes
      work := h.work_of
      dataInWr := h.dataInWr
      dataOpen := h.dataOpen
      noByte := h.noByte
      noStatusYet := fun hs => (h.initial hs).noStatus
      currentNotBusy := fun hs => hs.elim h.selectNotBusy h.notBusy
      currentNotReady := h.notReady
      rewindNotBegun := h.notBegun }

/-- `Good` is `CtxInv` of a controller with at most 16 sub-units. -/
theorem good_iff : Good p.nsense k.entry k.ctx ↔ k.entry.nunits ≤ 16 ∧ CtxInv p k :=
  ⟨fun h => ⟨h.regs.units, h.ctxInv⟩, fun h => h.2.good h.1⟩

end Sys2Proof.Machine
end

section
/-! What the updates of the registers keep of `RegsFit`. -/

namespace Sys2Proof.Machine

variable {n dBg u : Nat} {e : RegEntry} {c : Ctx} {m : Byte}

theorem mem_zeroBytes {bs : List Byte} {b : Byte} (h : b ∈ zeroBytes bs) : b = 0 := by
  rw [zeroBytes_eq] at h
  exact List.eq_of_mem_replicate h

theorem RegsFit.senseSet (h : RegsFit n e c.regs) (m : Byte) (hu : u < e.nunits) :
    RegsFit n e (senseSet u m c).regs :=
  { h with
    senseLength := senseSet_length.trans h.senseLength
    pendingIsStatusUnit := .inr rfl
    noPendingNoSense := fun h0 => absurd h0 (bit_ne_zero (hu.trans_le h.units))
    statusUnitFits := hu }

theorem RegsFit.senseCurrent (h : RegsFit n e c.regs) (m : Byte) : RegsFit n e (senseCurrent m c).regs :=
  h.senseSet m h.currentUnitFits

theorem RegsFit.clearSense (h : RegsFit n e c.regs) : RegsFit n e (clearSense c).regs := by
  unfold Machine.clearSense
  split
  · exact
      { h with
        senseLength := (zeroBytes_length _).trans h.senseLength
        pendingIsStatusUnit := .inl rfl
        noPendingNoSense := fun _ _ => mem_zeroBytes }
  · exact h

theorem RegsFit.select (h : RegsFit n e c.regs) (hu : u < e.nunits) : RegsFit n e { c with currentUnit := u }.regs :=
  { h with currentUnitFits := hu }

theorem RegsFit.dropReady (h : RegsFit n e c.regs) (u : Nat) :
    RegsFit n e { c with readyFlags := dropBit c.readyFlags u }.regs :=
  { h with
    busyNotReady := fun v hv => by
      have hr : hasBit c.readyFlags v = false := h.busyNotReady v hv
      simp [Ctx.regs, hasBit_dropBit, hr]
    readyFits := fun v hv => h.readyFits v (by simp_all [Ctx.regs, hasBit_dropBit]) }

theorem RegsFit.backgroundDone (h : RegsFit n e c.regs) (hu : u < e.nunits) :
    RegsFit n e (backgroundDone u c).regs :=
  { h with
    rewindBusy := fun v hv => by
      have := h.rewindBusy v
      simp_all [Ctx.regs, hasBit_dropBit]
    busyNotReady := fun v hv => by
      have := h.busyNotReady v
      simp_all [Ctx.regs, hasBit_dropBit, hasBit_addBit, hasBit_bit]
    readyFits := fun v hv => by
      have := h.readyFits v
      simp only [Ctx.regs, backgroundDone_readyFlags, hasBit_addBit, hasBit_bit, Bool.or_eq_true, Bool.and_eq_true,
        decide_eq_true_eq] at hv
      obtain hv | ⟨-, rfl⟩ := hv
      · exact this hv
      · exact hu
    busyFits := fun v hv => h.busyFits v (by simp_all [Ctx.regs, hasBit_dropBit]) }

/-- A background action begins on a sub-unit that is owed no device-end (R44 (f)). -/
theorem RegsFit.beginBackground (h : RegsFit n e c.regs) (b : Bool) (hr : hasBit c.readyFlags c.currentUnit = false) :
    RegsFit n e (beginBackground dBg b c).regs :=
  have hbusy : ∀ v, hasBit (addBit c.busyFlags c.currentUnit) v = true →
      hasBit c.busyFlags v = true ∨ v = c.currentUnit := by
    intro v hv
    simp only [hasBit_addBit, hasBit_bit, Bool.or_eq_true, Bool.and_eq_true, decide_eq_true_eq] at hv
    exact hv.imp id And.right
  { h with
    rewindBusy := fun v hv => by
      have hin : hasBit c.rewindFlags v = true → hasBit c.busyFlags v = true := h.rewindBusy v
      change hasBit (if b then addBit c.rewindFlags c.currentUnit else c.rewindFlags) v = true at hv
      change hasBit (addBit c.busyFlags c.currentUnit) v = true
      cases b <;> simp only [hasBit_addBit, Bool.or_eq_true, if_true, Bool.false_eq_true, if_false] at hv ⊢
      · exact .inl (hin hv)
      · exact hv.imp_left hin
    busyNotReady := fun v hv => by
      obtain hv | rfl := hbusy v hv
      · exact h.busyNotReady v hv
      · exact hr
    busyFits := fun v hv => by
      obtain hv | rfl := hbusy v hv
      · exact h.busyFits v hv
      · exact h.currentUnitFits }

end Sys2Proof.Machine
end

section
/-! The states in which the shared operations leave a context that meets the invariants: at rest, presenting a status,
at the next byte, chained. -/

namespace Sys2Proof.Machine

variable {n dBg : Nat} {e : RegEntry} {c : Ctx} {s : State} {o : OutTags} {x m : Byte} {k : CodecCall}
  {start device : State → State} {cmd : Byte}

/-- Rest without a handshake (R279). -/
theorem Good.rest (hr : RegsFit n e c.regs) (hd : ¬(c.dataReady = true ∧ c.dataEnd = true)) (hp : c.phase = .pNone)
    (hs : c.selected = false) : Good n e (toRest c) := by
  have hstate : restState c = .ready ∨ restState c = .wait ∨ restState c = .idle := by
    unfold restState
    split
    · exact .inl rfl
    · split
      · exact .inr (.inl rfl)
      · exact .inr (.inr rfl)
  refine ⟨hr, hd, ?_, ?_, ?_⟩ <;> obtain h | h | h := hstate <;>
    simp [phaseFits, busFits, workFits, holdsBus, h, hp, hs]

/-! ## A status is presented: `enterDataEnd` -/

/-- The record is closed by a codec call, and then perhaps by sense or unit-exception (R225). -/
theorem closeRecord_keeps {P : Ctx → Prop} (h : P s.ctx) (hopen : ∀ c, P c → P { c with recOpen := false })
    (hsense : ∀ c, P c → P (senseCurrent EQUIP_CHECK c)) (hstatus : ∀ c, P c → P (addStatus UE c)) :
    P (closeRecord s).ctx := by
  unfold closeRecord
  dsimp only
  split
  · split
    · exact hsense _ (hopen _ h)
    · split
      · exact hstatus _ (hopen _ h)
      · exact hopen _ h
    · exact hopen _ h
    · exact hopen _ h
  · exact h

/-- The registers of a context whose command is executing, which is what the end of its work needs. -/
structure AtWork (n : Nat) (e : RegEntry) (c : Ctx) : Prop where
  regs : RegsFit n e c.regs
  executing : Executing c.currentCommand c.regs

theorem AtWork.senseCurrent (h : AtWork n e c) (m : Byte) : AtWork n e (senseCurrent m c) :=
  ⟨h.regs.senseCurrent m, h.executing.work, h.executing.notBusy, h.executing.notReady⟩

theorem AtWork.addStatus (h : AtWork n e c) (x : Byte) : AtWork n e (addStatus x c) := ⟨h.regs, h.executing⟩

/-- The work is over and the byte given up: what closing the record keeps (R224, R225). -/
structure Closing (n : Nat) (e : RegEntry) (c : Ctx) : Prop extends AtWork n e c where
  noByte : c.dataReady = false

/-- A status that leaves out device-end makes the sub-unit busy (R227). -/
theorem RegsFit.withholdDeviceEnd (h : RegsFit n e c.regs) (hr : hasBit c.readyFlags c.currentUnit = false) :
    RegsFit n e (withholdDeviceEnd dBg c).regs := by
  unfold Machine.withholdDeviceEnd
  split
  · exact h.beginBackground false hr
  · exact h

/-- A status of a command with work goes to END on the bus, or waits in DATA_END for it (R228, R229). -/
theorem Good.presentEnding (hr : RegsFit n e c.regs) (hd : c.dataReady = false)
    (hw : isWorkCommand c.currentCommand = true) : Good n e (presentEnding c) := by
  have hn := not_rewind_of_isWorkCommand hw
  unfold Machine.presentEnding
  split
  · next h =>
    exact ⟨hr, by simp [hd], rfl, h, fun h => absurd h hn⟩
  · next h =>
    exact ⟨hr, by simp [hd], rfl, Bool.eq_false_of_not_eq_true h, hw⟩

theorem enterDataEnd_good (h : AtWork n e s.ctx) : Good n e (enterDataEnd s).ctx := by
  have hclosed : Closing n e (closeRecord (s.mapCtx fun c =>
      { c with commandDone := true, dataReady := false, delayCounter := 0 })).ctx :=
    closeRecord_keeps (P := Closing n e) ⟨⟨h.regs, h.executing⟩, rfl⟩
      (fun _ hc => ⟨⟨hc.regs, hc.executing⟩, hc.noByte⟩) (fun _ hc => ⟨hc.toAtWork.senseCurrent _, hc.noByte⟩)
      (fun _ hc => ⟨hc.toAtWork.addStatus _, hc.noByte⟩)
  unfold enterDataEnd
  generalize closeRecord _ = t at hclosed
  rw [State.mapCtx_ctx]
  have hcheck : Closing n e (addUnitCheck t.ctx) := by
    rw [addUnitCheck_eq]; exact ⟨⟨hclosed.regs, hclosed.executing⟩, hclosed.noByte⟩
  refine .presentEnding (hcheck.regs.withholdDeviceEnd hcheck.executing.notReady) ?_ ?_
  · rw [withholdDeviceEnd_eq]; exact hcheck.noByte
  · rw [withholdDeviceEnd_eq]; exact hcheck.executing.work

theorem endData_good (h : AtWork n e s.ctx) : Good n e (endData x s).ctx :=
  enterDataEnd_good ⟨h.regs, h.executing⟩

theorem endMotion_good (h : AtWork n e s.ctx) : Good n e (endMotion s).ctx :=
  enterDataEnd_good ⟨h.regs, h.executing⟩

/-! ## The status is accepted: `endAccepted` -/

theorem RegsFit.startRewind (h : RegsFit n e c.regs) (hn : RewindNotBegun c) :
    RegsFit n e (startRewind dBg c).regs := by
  unfold Machine.startRewind
  split
  · next hc => exact h.beginBackground true (hn hc).2
  · exact h

theorem RewindNotBegun.clearSense (h : RewindNotBegun c) : RewindNotBegun (clearSense c) := by
  rw [clearSense_eq]; exact h

/-- The end-accepted rule leaves chained WAIT or rest (R274). -/
theorem Good.endAcceptedCtx (hr : RegsFit n e c.regs) (hd : ¬(c.dataReady = true ∧ c.dataEnd = true))
    (hn : RewindNotBegun c) (o : OutTags) : Good n e (endAcceptedCtx dBg o c) := by
  have hregs : RegsFit n e (Machine.startRewind dBg (Machine.clearSense c)).regs :=
    hr.clearSense.startRewind hn.clearSense
  have hdata : ¬((Machine.startRewind dBg (Machine.clearSense c)).dataReady = true ∧
      (Machine.startRewind dBg (Machine.clearSense c)).dataEnd = true) := by
    rwa [startRewind_eq, clearSense_eq]
  unfold Machine.endAcceptedCtx chainOrRest
  split
  · next h =>
    simp only [Bool.and_eq_true] at h
    obtain ⟨⟨hchain, -⟩, -⟩ := h
    exact ⟨hregs, hdata, rfl, ⟨nofun, fun _ => hchain⟩, trivial⟩
  · exact .rest hregs hdata rfl rfl

theorem Good.endAccepted (h : Good n e s.ctx) (hn : RewindNotBegun s.ctx) (o : OutTags) :
    Good n e (endAccepted o s).ctx := .endAcceptedCtx h.regs h.data hn o

/-- An initial status is accepted before a rewind begins (R276). -/
theorem Initial.rewindNotBegun (h : Initial c) : RewindNotBegun c := fun hc =>
  ⟨h.notBusy, h.notReady (by rintro h0; simp [h0] at hc)⟩

/-! ## The work of a command -/

/-- The context of a command's start and of its device steps: executing, the data phase open, no handshake. -/
structure Working (n : Nat) (e : RegEntry) (c : Ctx) : Prop extends AtWork n e c where
  dataOpen : c.dataEnd = false
  quiet : c.phase = .pNone

theorem Working.senseCurrent (h : Working n e c) (m : Byte) : Working n e (senseCurrent m c) :=
  ⟨h.toAtWork.senseCurrent m, h.dataOpen, h.quiet⟩

theorem Working.addStatus (h : Working n e c) (x : Byte) : Working n e (addStatus x c) :=
  ⟨h.toAtWork.addStatus x, h.dataOpen, h.quiet⟩

theorem Working.operate (h : Working n e c) (hs : c.state = .operate) : Good n e c :=
  ⟨h.regs, by simp [h.dataOpen], by simp [phaseFits, hs, h.quiet], by simp [busFits, hs, h.quiet],
    by simp [workFits, hs, h.executing, h.dataOpen]⟩

/-- REQUEST asks for the bus after a transfer that lost it (R211). -/
theorem Working.request (h : Working n e c) (hs : c.state = .request) (hb : c.selected = false) : Good n e c :=
  ⟨h.regs, by simp [h.dataOpen], by simp [phaseFits, hs, h.quiet], by simp [busFits, holdsBus, hs, h.quiet, hb],
    by simp [workFits, hs, h.executing, h.dataOpen]⟩

theorem offerByte_good (h : Working n e s.ctx) : Good n e (offerByte s).ctx := by
  rw [offerByte_eq, State.setCtx_ctx]
  split
  · next hb =>
    exact ⟨h.regs, by simp [h.dataOpen], rfl, hb, h.executing, fun _ => h.dataOpen⟩
  · next hb =>
    exact Working.request ⟨⟨h.regs, h.executing⟩, h.dataOpen, h.quiet⟩ rfl (Bool.eq_false_of_not_eq_true hb)

/-- A WR that holds no byte (R205, R218). -/
structure WritingNext (n : Nat) (e : RegEntry) (c : Ctx) : Prop extends Working n e c where
  isWr : c.currentCommand = 0x01
  noByte : c.dataReady = false

theorem WritingNext.senseCurrent (h : WritingNext n e c) (m : Byte) : WritingNext n e (senseCurrent m c) :=
  ⟨h.toWorking.senseCurrent m, h.isWr, h.noByte⟩

theorem WritingNext.addStatus (h : WritingNext n e c) (x : Byte) : WritingNext n e (addStatus x c) :=
  ⟨h.toWorking.addStatus x, h.isWr, h.noByte⟩

/-- A WR with the bus asks for a byte (R211, R218). -/
theorem WritingNext.dataIn (h : WritingNext n e c) (hb : c.selected = true) (r : Bool) :
    Good n e { c with recOpen := r, state := .dataIn, phase := .pService } :=
  ⟨h.regs, by simp [h.noByte], rfl, hb, h.executing, h.isWr, fun _ => ⟨h.dataOpen, h.noByte⟩⟩

theorem requestByte_good (h : WritingNext n e s.ctx) : Good n e (requestByte s).ctx := by
  rw [requestByte_eq, State.setCtx_ctx]
  split
  · next hb => exact h.dataIn hb s.ctx.recOpen
  · next hb =>
    exact Working.request ⟨⟨h.regs, h.executing⟩, h.dataOpen, h.quiet⟩ rfl (Bool.eq_false_of_not_eq_true hb)

theorem drawOverrun_keeps {P : Ctx → Prop} (h : P s.ctx) (hsense : ∀ c, P c → P (senseCurrent OVERRUN c)) :
    P (drawOverrun s).ctx := by
  rw [drawOverrun_eq, State.setCtx_ctx]
  split
  · exact hsense _ h
  · exact h

theorem openWrite_good (h : WritingNext n e s.ctx) : Good n e (startWr.openWrite s).ctx := by
  unfold startWr.openWrite
  rw [State.mapCtx_ctx]
  split
  · next hb => exact h.dataIn hb true
  · exact Working.operate ⟨⟨h.regs, h.executing⟩, h.dataOpen, h.quiet⟩ rfl

theorem WritingNext.startWr (h : WritingNext n e s.ctx) : Good n e (startWr s).ctx := by
  unfold Machine.startWr
  dsimp only
  split
  · exact endData_good (h.toAtWork.senseCurrent EQUIP_CHECK)
  · exact openWrite_good (h.addStatus UE)
  · exact openWrite_good h
  · exact openWrite_good h

theorem openRead_good (h : Working n e s.ctx) : Good n e (openRead s).ctx :=
  Working.operate ⟨⟨h.regs, h.executing⟩, h.dataOpen, h.quiet⟩ rfl

theorem Working.startRd (h : Working n e s.ctx) : Good n e (startRd s).ctx := by
  unfold Machine.startRd
  dsimp only
  split
  · exact openRead_good h
  · exact endData_good h.toAtWork
  all_goals exact endData_good (h.toAtWork.senseCurrent EQUIP_CHECK)

theorem Working.startRdb (h : Working n e s.ctx) : Good n e (startRdb s).ctx := by
  unfold Machine.startRdb
  dsimp only
  split
  · exact openRead_good h
  · exact endData_good h.toAtWork
  · exact endData_good (h.toAtWork.senseCurrent CMD_REJECT)
  · exact endData_good (h.toAtWork.senseCurrent EQUIP_CHECK)

/-- Whatever its row, a command's work starts in a context that meets the invariants (R191). -/
theorem WorkRow.start_good (row : WorkRow cmd start device) (h : Working n e s.ctx)
    (hc : s.ctx.currentCommand = cmd) (hd : s.ctx.dataReady = false) : Good n e (start s).ctx := by
  cases row
  case wr => exact WritingNext.startWr ⟨h, hc, hd⟩
  case rd => exact h.startRd
  case rdb => exact h.startRdb
  all_goals exact Working.operate ⟨⟨h.regs, h.executing⟩, h.dataOpen, h.quiet⟩ rfl

theorem Working.deviceWr (h : Working n e s.ctx) (hc : s.ctx.currentCommand = 0x01) : Good n e (deviceWr s).ctx := by
  unfold Machine.deviceWr
  split
  · have hdrawn : WritingNext n e (drawOverrun ((s.noteCall s.ctx.currentUnit (.writeFrame s.ctx.dataByte)).mapCtx
        fun c => { c with dataReady := false })).ctx :=
      drawOverrun_keeps (P := WritingNext n e) ⟨⟨⟨h.regs, h.executing⟩, h.dataOpen, h.quiet⟩, hc, rfl⟩
        fun _ hc => hc.senseCurrent _
    dsimp only
    split
    · exact endData_good (hdrawn.toAtWork.senseCurrent EQUIP_CHECK)
    · exact requestByte_good (hdrawn.addStatus UE)
    · exact requestByte_good hdrawn
    · exact requestByte_good hdrawn
  · next hready => exact requestByte_good ⟨h, hc, Bool.eq_false_of_not_eq_true hready⟩

theorem Working.deviceRead (h : Working n e s.ctx) : Good n e (deviceRead s).ctx := by
  unfold Machine.deviceRead
  split
  · exact offerByte_good h
  · dsimp only
    split
    · exact offerByte_good (drawOverrun_keeps (P := Working n e) ⟨⟨h.regs, h.executing⟩, h.dataOpen, h.quiet⟩
        fun _ hc => hc.senseCurrent _)
    · exact endData_good h.toAtWork
    all_goals exact endData_good (h.toAtWork.senseCurrent EQUIP_CHECK)

/-- The sense cursor moves on, within the sense bytes (R208, R43 (d)). -/
theorem Working.fetchSense (h : Working n e s.ctx) (hi : s.ctx.senseIndex < n) : Working n e (fetchSense s).ctx := by
  have hctx : (if s.ctx.senseIndex = 1 then s.useCond else s).ctx = s.ctx := by split <;> rfl
  unfold Machine.fetchSense
  dsimp only
  rw [State.mapCtx_ctx, hctx]
  have hx := h.executing
  exact ⟨⟨{ h.regs with senseCursor := hi }, hx.work, hx.notBusy, hx.notReady⟩, h.dataOpen, h.quiet⟩

theorem Working.deviceSns (h : Working s.params.nsense e s.ctx) : Good s.params.nsense e (deviceSns s).ctx := by
  unfold Machine.deviceSns
  split
  · exact offerByte_good h
  · split
    · next hi => exact offerByte_good (h.fetchSense hi)
    · exact endData_good h.toAtWork

theorem Working.deviceWtm (h : Working n e s.ctx) : Good n e (deviceWtm s).ctx := by
  unfold Machine.deviceWtm
  dsimp only
  split
  · exact endMotion_good h.toAtWork
  · exact endMotion_good h.toAtWork
  · exact endMotion_good (h.toAtWork.addStatus UE)
  · exact endMotion_good (h.toAtWork.senseCurrent EQUIP_CHECK)

theorem AtWork.skipCalls (h : AtWork n e s.ctx) (k : CodecCall) : AtWork n e (skipCalls k s).ctx := by
  rwa [skipCalls_ctx]

theorem Working.deviceBsb (h : Working n e s.ctx) : Good n e (deviceBsb s).ctx := by
  have ht := h.toAtWork.skipCalls .startBackwardRead
  unfold Machine.deviceBsb
  dsimp only
  split
  · exact endMotion_good ht
  · exact endMotion_good (ht.addStatus UE)
  · exact endMotion_good (ht.senseCurrent CMD_REJECT)
  · exact endMotion_good (ht.senseCurrent EQUIP_CHECK)

theorem Working.deviceFsb (h : Working n e s.ctx) : Good n e (deviceFsb s).ctx := by
  have ht := h.toAtWork.skipCalls .startForwardRead
  unfold Machine.deviceFsb
  dsimp only
  split
  · exact endMotion_good ht
  · exact endMotion_good (ht.addStatus UE)
  · exact endMotion_good (ht.senseCurrent EQUIP_CHECK)
  · exact endMotion_good (ht.senseCurrent EQUIP_CHECK)

/-- File spacing goes on in OPERATE (R246, R248). -/
theorem nextRecord_good (h : Working n e s.ctx) (hs : s.ctx.state = .operate) (k : CodecCall) :
    Good n e (nextRecord (skipCalls k s)).ctx := by
  unfold nextRecord
  rw [State.mapCtx_ctx, skipCalls_ctx]
  exact Working.operate ⟨⟨h.regs, h.executing⟩, h.dataOpen, h.quiet⟩ hs

theorem Working.deviceBsf (h : Working n e s.ctx) (hs : s.ctx.state = .operate) : Good n e (deviceBsf s).ctx := by
  have ht := h.toAtWork.skipCalls .startBackwardRead
  unfold Machine.deviceBsf
  dsimp only
  split
  · exact nextRecord_good h hs _
  · exact endMotion_good ht
  · exact endMotion_good (ht.senseCurrent CMD_REJECT)
  · exact endMotion_good (ht.senseCurrent EQUIP_CHECK)

theorem Working.deviceFsf (h : Working n e s.ctx) (hs : s.ctx.state = .operate) : Good n e (deviceFsf s).ctx := by
  have ht := h.toAtWork.skipCalls .startForwardRead
  unfold Machine.deviceFsf
  dsimp only
  split
  · exact nextRecord_good h hs _
  · exact endMotion_good ht
  · exact endMotion_good (ht.senseCurrent EQUIP_CHECK)
  · exact endMotion_good (ht.senseCurrent EQUIP_CHECK)

/-- Whatever its row, a device step of the current command keeps the invariants (R201). -/
theorem WorkRow.device_good (row : WorkRow cmd start device) (h : Working s.params.nsense e s.ctx)
    (hs : s.ctx.state = .operate) (hc : s.ctx.currentCommand = cmd) : Good s.params.nsense e (device s).ctx := by
  cases row
  case wr => exact h.deviceWr hc
  case rd | rdb => exact h.deviceRead
  case sns => exact h.deviceSns
  case erg => exact endMotion_good h.toAtWork
  case wtm => exact h.deviceWtm
  case bsb => exact h.deviceBsb
  case bsf => exact h.deviceBsf hs
  case fsb => exact h.deviceFsb
  case fsf => exact h.deviceFsf hs

end Sys2Proof.Machine
end

section
/-! Command capture and the tag events keep the invariants of the controller's context. -/

namespace Sys2Proof.Machine

variable {n dBg u : Nat} {e : RegEntry} {c : Ctx} {s t : State} {i : Instr} {o : OutTags} {p : Phase}
  {start device : State → State} {cmd : Byte} {w : BusWord} {d : DevCond}

/-! ## Reading and moving the phase -/

theorem Good.holds (h : Good n e c) (hp : holdsBus c.phase = true) : c.selected = true := by
  obtain ⟨hbus, -, -, -⟩ := h.busClauses
  exact hbus hp

theorem Good.off (h : Good n e c) (hp : c.phase = .pReq ∨ c.phase = .pBusy) : c.selected = false := by
  obtain ⟨-, hfree, -, -⟩ := h.busClauses
  exact hfree hp

/-- A phase within the same state, held or not held as before. -/
theorem Good.toPhase (h : Good n e c) (hfit : phaseFits c.state p = true) (hbus : holdsBus p = holdsBus c.phase)
    (hbusy : p = .pBusy → c.selected = false) (hservice : p ≠ .pService)
    (howes : c.state = .ready → p = .pReq → c.readyFlags ≠ 0) : Good n e (toPhase p c) := by
  have hb := h.bus
  have hw := h.work
  refine ⟨h.regs, h.data, hfit, ?_, ?_⟩
  · unfold busFits at hb ⊢
    rw [toPhase_state]
    cases hs : c.state <;> rw [hs] at hb <;> simp_all
  · unfold workFits at hw ⊢
    rw [toPhase_state]
    cases hs : c.state <;> rw [hs] at hw <;> dsimp only at hw ⊢
    case ready => exact howes hs
    case command | initStatus => exact ⟨hw.1, hw.2, hw.3, hw.4, hw.5, hw.6⟩
    case dataIn => exact ⟨hw.1, hw.2.1, fun hp => absurd hp hservice⟩
    case dataOut => exact ⟨hw.1, fun hp => absurd hp hservice⟩
    all_goals exact hw

/-- A phase that holds the bus after another one that does. -/
theorem Good.nextPhase (h : Good n e c) (hfit : phaseFits c.state p = true) (hold : holdsBus c.phase = true)
    (hp : holdsBus p = true) (hservice : p ≠ .pService) : Good n e (Machine.toPhase p c) :=
  h.toPhase hfit (hp.trans hold.symm) (fun hb => by simp [hb, holdsBus] at hp) hservice
    fun _ hr => by simp [hr, holdsBus] at hp

/-- Off the bus, without a handshake: the states that may wait so. -/
theorem Good.offBus (hr : RegsFit n e c.regs) (hd : ¬(c.dataReady = true ∧ c.dataEnd = true)) (hp : c.phase = .pNone)
    (hs : c.selected = false)
    (hw : c.state = .idle ∨ c.state = .ready ∨ (c.state = .dataEnd ∧ isWorkCommand c.currentCommand = true) ∨
      (c.state = .stack ∧ RewindNotBegun c)) : Good n e c := by
  refine ⟨hr, hd, ?_, ?_, ?_⟩ <;> obtain h | h | ⟨h, hc⟩ | ⟨h, hc⟩ := hw <;>
    simp [phaseFits, busFits, workFits, holdsBus, *]

/-- READY holds the bus to deliver a device-end (R260). -/
theorem Good.delivering (hr : RegsFit n e c.regs) (hd : ¬(c.dataReady = true ∧ c.dataEnd = true))
    (hs : c.state = .ready) (hp : c.phase = .pAddrIn ∨ c.phase = .pStatus ∨ c.phase = .pStatusAck) (hsel : c.selected = true) :
    Good n e c := by
  refine ⟨hr, hd, ?_, ?_, ?_⟩ <;> obtain h | h | h := hp <;> simp [phaseFits, busFits, workFits, holdsBus, *]

theorem not_both_of_open (h : c.dataEnd = false) : ¬(c.dataReady = true ∧ c.dataEnd = true) := fun hb =>
  Bool.false_ne_true (h.symm.trans hb.2)

/-- A byte has been answered (R214, R219). -/
theorem Good.byteAnswered (hr : RegsFit n e c.regs) (hd : ¬(c.dataReady = true ∧ c.dataEnd = true))
    (hx : Executing c.currentCommand c.regs) (hp : c.phase = .pServiceAck) (hsel : c.selected = true)
    (hs : c.state = .dataOut ∨ (c.state = .dataIn ∧ c.currentCommand = 0x01)) : Good n e c := by
  refine ⟨hr, hd, ?_, ?_, ?_⟩ <;> obtain h | ⟨h, hc⟩ := hs <;> simp [phaseFits, busFits, workFits, holdsBus, *]
  rwa [hc] at hx

/-! ## Capture -/

/-- The legal commands that no earlier row of R170 takes are those with work (R183). -/
theorem isWorkCommand_of_accepted :
    ∀ c : Byte, legal c = true → c ≠ 0x00 → classOf c ≠ 3 → ¬(c = 0x07 ∨ c = 0x0F) → isWorkCommand c = true := by decide

/-- What every row of the capture table leaves (R170). -/
structure Captures (n : Nat) (e : RegEntry) (c : Ctx) : Prop where
  regs : RegsFit n e c.regs
  initial : Initial c

section
variable (hr : RegsFit n e c.regs) (hopen : c.dataEnd = false) (hbyte : c.dataReady = false)
  (hbusy : hasBit c.busyFlags c.currentUnit = false)
include hr hopen hbyte hbusy

theorem captures_presentPending : Captures n e (presentPending cmd w c) :=
  ⟨hr, nofun, nofun, hopen, hbyte, hbusy, fun h => absurd rfl h⟩

theorem captures_reject (m : Byte) : Captures n e (reject m c) :=
  ⟨hr.senseCurrent m, nofun, nofun, hopen, hbyte, hbusy, fun h => absurd rfl h⟩

theorem captures_conclude (st : Byte) (hready : hasBit c.readyFlags c.currentUnit = false) :
    Captures n e (conclude st cmd c) :=
  ⟨hr, nofun, nofun, hopen, hbyte, hbusy, fun _ => hready⟩

theorem captures_acceptWork (hready : hasBit c.readyFlags c.currentUnit = false) (hw : isWorkCommand cmd = true) :
    Captures n e (acceptWork cmd c) :=
  ⟨hr, fun _ => hw, fun _ => rfl, hopen, hbyte, hbusy, fun _ => hready⟩

theorem captureTable_captures (cmd : Byte) (w : BusWord) (d : DevCond) : Captures n e (captureTable cmd w d c) := by
  have hreject := captures_reject hr hopen hbyte hbusy
  unfold captureTable
  split
  · exact captures_presentPending hr hopen hbyte hbusy
  · next hready =>
    replace hready := Bool.eq_false_of_not_eq_true hready
    have hconclude := fun cmd st => captures_conclude (cmd := cmd) hr hopen hbyte hbusy st hready
    split
    · exact hreject _
    · split
      · exact hreject _
      · next hlegal =>
        iterate 4
          split
          · exact hreject _
        split
        · exact hconclude _ _
        · split
          · exact hconclude _ _
          · split
            · exact hconclude _ _
            · exact captures_acceptWork hr hopen hbyte hbusy hready
                (isWorkCommand_of_accepted _ (by simpa using hlegal) ‹_› ‹_› ‹_›)

end

/-- Capture takes SELECT to COMMAND (R128). -/
theorem capture_good (h : Good n e s.ctx) (hs : s.ctx.state = .select) (cmd : Byte) : Good n e (capture cmd s).ctx := by
  have hphase := h.phase
  rw [hs] at hphase
  have hsel : s.ctx.selected = true := h.holds (by
    simp only [phaseFits, Bool.or_eq_true, beq_iff_eq] at hphase
    obtain hp | hp := hphase <;> rw [hp] <;> rfl)
  unfold capture
  rw [State.mapCtx_ctx, State.useCond_ctx]
  have hcleared : RegsFit n e (clearedCtx s.ctx).regs := { h.regs with senseCursor := Nat.zero_le n }
  have hc := captureTable_captures (c := clearedCtx s.ctx) hcleared rfl rfl (h.selectNotBusy hs) cmd s.busOut s.nextCond
  have hselected := (captureTable_selected cmd s.busOut s.nextCond (clearedCtx s.ctx)).trans hsel
  have hi := hc.initial
  exact ⟨hc.regs, by simp [hi.noByte], rfl, hselected,
    ⟨hi.work, hi.noStatus, hi.dataOpen, hi.noByte, hi.notBusy, hi.notReady⟩⟩

/-! ## ECMD, ECMDDROP -/

theorem commandOut_good (h : Good n e s.ctx) : Good n e (commandOut s).ctx := by
  unfold commandOut
  split
  case h_1 hs _ => exact capture_good h hs _
  case h_6 => exact h
  all_goals next hs hp => exact h.nextPhase (by rw [hs]; rfl) (by rw [hp]; rfl) rfl nofun

theorem commandDrop_good (h : Good n e c) : Good n e (commandDrop c) := by
  unfold commandDrop
  split
  · next hs hp => exact h.nextPhase (by rw [hs]; rfl) (by rw [hp]; rfl) rfl nofun
  · next hs _ =>
    exact Working.operate ⟨⟨h.regs, h.executing (by simp [hs])⟩, h.dataOpen (by simp [hs]), rfl⟩ rfl
  · next hs hp => exact ⟨h.regs, h.data, rfl, h.holds (by rw [hp]; rfl), h.notBegun (.inr hs)⟩
  · next hs hp =>
    exact ⟨h.regs, h.data, rfl, h.holds (by rw [hp]; rfl),
      fun hc => absurd hc (not_rewind_of_isWorkCommand (h.work_of (by simp [hs])))⟩
  · next hs hp => exact .delivering h.regs h.data hs (.inr (.inl rfl)) (h.holds (by rw [hp]; rfl))
  · exact h

/-! ## EACCEPT, ESTACK, ESTOP -/

theorem acceptInitial_good (h : Good n e c) (hs : c.state = .command) (hp : c.phase = .pStatus) (sup : Bool) :
    Good n e (acceptInitial sup c) := by
  have hi := h.initial (.inl hs)
  refine ⟨h.regs.dropReady c.currentUnit, h.data, rfl, h.holds (by rw [hp]; rfl),
    ⟨hi.work, hi.noStatus, hi.dataOpen, hi.noByte, hi.notBusy, fun _ => ?_⟩⟩
  simp [acceptInitial, hasBit_dropBit]

theorem captureByte_good (h : Good n e c) (hs : c.state = .dataIn) (hp : c.phase = .pService) (w : BusWord) :
    Good n e (captureByte w c) := by
  have hx := h.executing (by simp [hs])
  have hopen := h.dataOpen (by simp [hp])
  have hsel := h.holds (by rw [hp]; rfl)
  unfold captureByte
  split
  · exact .byteAnswered h.regs (not_both_of_open hopen) hx rfl hsel (.inr ⟨hs, h.dataInWr hs⟩)
  · exact .byteAnswered (h.regs.senseCurrent BUS_CHECK) (not_both_of_open hopen)
      ⟨hx.work, hx.notBusy, hx.notReady⟩ rfl hsel (.inr ⟨hs, h.dataInWr hs⟩)

theorem serviceOut_good (h : Good n e c) (sup : Bool) (w : BusWord) : Good n e (serviceOut sup w c) := by
  unfold serviceOut
  split
  · next hs hp => exact acceptInitial_good h hs hp sup
  · next hs hp =>
    exact .delivering (h.regs.dropReady c.currentUnit) h.data hs (.inr (.inr rfl)) (h.holds (by rw [hp]; rfl))
  · next hs hp =>
    have hsel := h.holds (by rw [hp]; rfl)
    exact ⟨h.regs, h.data, by simp [hs, phaseFits], by simp [hs, busFits, holdsBus, hsel],
      by simpa [hs, workFits, RewindNotBegun] using h.notBegun (.inl hs)⟩
  · next hs hp =>
    exact .byteAnswered h.regs nofun (h.executing (by simp [hs])) rfl (h.holds (by rw [hp]; rfl)) (.inl hs)
  · next hs hp => exact captureByte_good h hs hp w
  · exact h

/-- A stacked initial status: the rewind of a REW or RUN is still to come (R185, R276). -/
theorem stackInitial_good (h : Good n e c) (hs : c.state = .command) (hp : c.phase = .pStatus) :
    Good n e (stackInitial c) := by
  have hn : RewindNotBegun (stackInitial c) := fun hc => by
    have hdone : c.commandDone = true := by
      by_contra hd
      simp [stackInitial, hd] at hc
    rw [stackInitial, if_pos hdone] at hc
    exact (h.initial (.inl hs)).rewindNotBegun hc
  exact ⟨h.regs, h.data, rfl, h.holds (by rw [hp]; rfl), hn⟩

theorem stackStatus_good (h : Good n e c) : Good n e (stackStatus c) := by
  unfold stackStatus
  split
  · next hs hp => exact stackInitial_good h hs hp
  · next hs hp => exact h.nextPhase (by rw [hs]; rfl) (by rw [hp]; rfl) rfl nofun
  · next hs hp => exact ⟨h.regs, h.data, rfl, h.holds (by rw [hp]; rfl), h.notBegun (.inl hs)⟩
  · exact h

theorem stopTransfer_good (h : Good n e c) : Good n e (stopTransfer c) := by
  unfold stopTransfer
  split
  · next hs hp =>
    exact .byteAnswered h.regs nofun (h.executing (by simp [hs])) rfl (h.holds (by rw [hp]; rfl)) (.inl hs)
  · next hs hp =>
    have hbyte := h.noByte (.inr (.inr ⟨hs, hp⟩))
    exact .byteAnswered h.regs (by simp [hbyte]) (h.executing (by simp [hs])) rfl (h.holds (by rw [hp]; rfl))
      (.inr ⟨hs, h.dataInWr hs⟩)
  · exact h

/-! ## EACKDROP -/

/-- The work begins when the initial status is over (R190). -/
theorem beginWork_working (h : Good n e s.ctx) (hs : s.ctx.state = .initStatus) (hd : s.ctx.commandDone = false)
    (o : OutTags) : Working n e (beginWork o s).ctx := by
  have hi := h.initial (.inr hs)
  have hw := hi.work hd
  exact ⟨⟨h.regs, hw, hi.notBusy, hi.notReady (ne_zero_of_isWorkCommand hw)⟩, hi.dataOpen, rfl⟩

theorem WorkRow.begin_good (row : WorkRow cmd start device) (h : Good n e s.ctx) (hs : s.ctx.state = .initStatus)
    (hd : s.ctx.commandDone = false) (hc : s.ctx.currentCommand = cmd) (o : OutTags) :
    Good n e (start (beginWork o s)).ctx :=
  row.start_good (beginWork_working h hs hd o) hc (h.initial (.inr hs)).noByte

theorem byteDone_good (h : Good n e s.ctx) (hs : s.ctx.state = .dataOut ∨ s.ctx.state = .dataIn) (o : OutTags) :
    Good n e (byteDone o s).ctx := by
  have hx : Executing s.ctx.currentCommand s.ctx.regs := h.executing (by tauto)
  unfold byteDone
  dsimp only
  split
  · exact enterDataEnd_good ⟨h.regs, hx⟩
  · next hd =>
    exact Working.operate ⟨⟨h.regs, hx⟩, Bool.eq_false_of_not_eq_true hd, rfl⟩ rfl

theorem stackDrop_good (h : Good n e c) (hs : c.state = .stack) : Good n e (stackDrop c) := by
  unfold stackDrop
  split
  · exact .rest h.regs h.data rfl rfl
  · exact .offBus h.regs h.data rfl rfl (.inr (.inr (.inr ⟨hs, h.notBegun (.inr hs)⟩)))

theorem ackDrop_good (h : Good n e s.ctx) (o : OutTags) : Good n e (ackDrop o s).ctx := by
  unfold ackDrop
  split
  · next hs hp =>
    split
    · exact h.endAccepted (h.initial (.inr hs)).rewindNotBegun o
    · next hd =>
      obtain he | ⟨start, device, row, he⟩ := startCurrent_row o s <;> rw [he]
      · exact h
      · exact row.begin_good h hs (Bool.eq_false_of_not_eq_true hd) rfl o
  · next hs _ => exact byteDone_good h (.inl hs) o
  · next hs _ => exact byteDone_good h (.inr hs) o
  · exact .rest h.regs h.data rfl rfl
  · next hs _ => exact h.endAccepted (h.notBegun (.inl hs)) o
  · next hs _ =>
    split
    · exact stackDrop_good h hs
    · exact h
  · exact h

/-! ## ERESET, EHALT -/

theorem resetCtx_good (h : Good n e c) : Good n e (resetCtx c) := by
  have hpos : 0 < e.nunits := Nat.zero_lt_of_lt h.regs.currentUnitFits
  have hregs : RegsFit n e (resetCtx c).regs :=
    { h.regs with
      senseLength := (zeroBytes_length _).trans h.regs.senseLength
      senseCursor := Nat.zero_le n
      busyNotReady := fun v _ => hasBit_zero v
      pendingIsStatusUnit := .inl rfl
      noPendingNoSense := fun _ _ => mem_zeroBytes
      currentUnitFits := hpos
      statusUnitFits := hpos
      readyFits := fun v hv => absurd ((hasBit_zero v).symm.trans hv) Bool.false_ne_true }
  exact .offBus hregs nofun rfl rfl (.inl rfl)

theorem haltTransfer_good (hr : RegsFit n e s.ctx.regs) (hx : Executing s.ctx.currentCommand s.ctx.regs) :
    Good n e (haltTransfer s).ctx := enterDataEnd_good ⟨hr, hx⟩

/-- The halt of a selected controller, by state (R141 to R147). -/
theorem haltByState_good (h : Good n e s.ctx) (o : OutTags) :
    Good n e (haltByState o s.ctx.state s.ctx.phase (s.mapCtx haltCommon)).ctx := by
  unfold haltByState
  cases hs : s.ctx.state <;> dsimp only
  case select | command => exact .rest h.regs nofun rfl rfl
  case initStatus =>
    have hi := h.initial (.inr hs)
    split
    · exact Good.endAcceptedCtx (c := haltCommon s.ctx) h.regs h.data hi.rewindNotBegun o
    · next hd =>
      have hw := hi.work (Bool.eq_false_of_not_eq_true hd)
      exact endData_good ⟨h.regs, hw, hi.notBusy, hi.notReady (ne_zero_of_isWorkCommand hw)⟩
  case operate | dataIn | dataOut | request => exact haltTransfer_good h.regs (h.executing (by simp [hs]))
  case dataEnd => exact .offBus h.regs h.data rfl rfl (.inr (.inr (.inl ⟨hs, h.work_of (by simp [hs])⟩)))
  case ending =>
    have hn := h.notBegun (.inl hs)
    have hphase := h.phase
    rw [hs] at hphase
    split
    · exact .offBus h.regs h.data rfl rfl (.inr (.inr (.inr ⟨rfl, hn⟩)))
    · split
      · exact Good.endAcceptedCtx (c := haltCommon s.ctx) h.regs h.data hn o
      · simp_all [phaseFits]
  case wait => exact .rest h.regs h.data rfl rfl
  case ready =>
    split
    · exact .rest h.regs h.data rfl rfl
    · split
      · exact .offBus h.regs h.data rfl rfl (.inr (.inl hs))
      · exact .offBus h.regs h.data rfl rfl (.inr (.inl hs))
  case stack =>
    split
    · exact .rest h.regs h.data rfl rfl
    · exact .offBus h.regs h.data rfl rfl (.inr (.inr (.inr ⟨hs, h.notBegun (.inr hs)⟩)))
  case idle => exact .offBus h.regs h.data rfl rfl (.inl hs)

theorem halt_good (h : Good n e s.ctx) (o : OutTags) : Good n e (halt o s).ctx := by
  unfold halt
  split
  · exact haltByState_good h o
  · exact h

/-! ## ESEL, ECHAIN, EPOLL, EABANDON, EADROP, EBUSYEND -/

/-- The scanner answers a sub-unit of the controller it answers (R301). -/
theorem scanFrom_fits {a : Byte} {es : List RegEntry} {j u : Nat} :
    ∀ {i : Nat}, scanFrom a i es = some (j, u) → ∃ k e, es[k]? = some e ∧ j = i + k ∧ u < e.nunits := by
  induction es with
  | nil => nofun
  | cons e es ih =>
    intro i h
    unfold scanFrom at h
    split at h
    · next hin =>
      obtain ⟨rfl, rfl⟩ := Prod.mk.inj (Option.some.inj h)
      exact ⟨0, e, rfl, rfl, by omega⟩
    · obtain ⟨k, e', hk, hj, hu⟩ := ih h
      exact ⟨k + 1, e', hk, by omega, hu⟩

/-- The addressed sub-unit is one of the controller's own (R301, R303). -/
theorem addressedUnit_fits (h : s.addressedUnit = some u) : u < s.cur.entry.nunits := by
  obtain ⟨k, e, hk, hj, hu⟩ := scanFrom_fits ((addressedUnit_iff s u).mp h).2
  have hcur : s.registry[s.index]? = some s.cur.entry := by
    simp [State.registry, State.controllers, State.index]
  obtain rfl : s.index = k := by omega
  rw [hcur] at hk
  exact Option.some.inj hk ▸ hu

/-- The short busy sequence begins where no handshake is under way (R122, R123). -/
theorem Good.answerBusy (h : Good n e c) (hsel : c.selected = false) (hp : c.phase = .pNone ∨ c.phase = .pReq)
    (hfit : phaseFits c.state .pBusy = true) : Good n e (Machine.toPhase .pBusy c) :=
  h.toPhase hfit (by obtain hp | hp := hp <;> rw [hp] <;> rfl) (fun _ => hsel) nofun nofun

theorem selectByState_good (h : Good n e c) (hsel : c.selected = false) (hp : c.phase = .pNone ∨ c.phase = .pReq)
    (hu : u < e.nunits) : Good n e (selectByState u c) := by
  have hbusy := h.answerBusy hsel hp
  have hselect (hfree : ¬hasBit c.busyFlags u = true) : Good n e (selectUnit u c) :=
    ⟨h.regs.select hu, h.data, rfl, rfl, Bool.eq_false_of_not_eq_true hfree⟩
  unfold selectByState
  cases hs : c.state <;> rw [hs] at hbusy <;> dsimp only
  case idle | wait | ready =>
    split
    · exact hbusy rfl
    · next hfree => exact hselect hfree
  case operate | request | dataEnd | stack => exact hbusy rfl
  all_goals exact h

theorem addressedSelection_good (h : Good n s.cur.entry s.ctx) : Good n s.cur.entry (addressedSelection s).ctx := by
  unfold addressedSelection
  split
  · next hq =>
    simp only [Bool.and_eq_true, Bool.or_eq_true, beq_iff_eq, Bool.not_eq_true'] at hq
    obtain ⟨⟨hsel, hp⟩, -⟩ := hq
    split
    · next u hu => exact selectByState_good h hsel hp (addressedUnit_fits hu)
    · exact h
  · exact h

theorem chainedAddress_good (h : Good n e s.ctx) : Good n e (chainedAddress s).ctx := by
  unfold chainedAddress
  split
  · next hq =>
    simp only [Bool.and_eq_true, beq_iff_eq] at hq
    obtain ⟨⟨hsel, hs⟩, -⟩ := hq
    rw [State.mapCtx_ctx]
    split
    · next haddressed =>
      obtain ⟨-, hfree⟩ := haddressed
      exact ⟨h.regs, h.data, rfl, hsel, hfree⟩
    · have hp : s.ctx.phase = .pNone := by
        have hphase := h.phase
        have hoff := h.off
        simp_all [phaseFits]
      exact .rest h.regs h.data hp rfl
  · exact h

/-- READY serves a sub-unit of its own (R258). -/
theorem nextReadyUnit_fits (h : nextReadyUnit n c = some u) (hn : 0 < n) : u < n := by
  obtain ⟨k, -, rfl⟩ := List.mem_map.mp (List.mem_of_find?_eq_some h)
  exact Nat.mod_lt _ hn

theorem Good.withdraw (h : Good n e c) (hp : c.phase = .pReq ∨ c.phase = .pBusy)
    (hfit : phaseFits c.state .pNone = true) : Good n e (Machine.toPhase .pNone c) :=
  h.toPhase hfit (by obtain hp | hp := hp <;> rw [hp] <;> rfl) nofun nofun nofun

/-- A poll is taken by a controller that requests the bus (R134). -/
theorem takePoll_good (h : Good n e c) (hs : c.state = .request ∨ c.state = .dataEnd ∨ c.state = .stack) :
    Good n e (takePoll c) := by
  have hfit : phaseFits (takePoll c).state .pAddrIn = true := by
    obtain hs | hs | hs := hs <;> simp [takePoll, phaseFits, hs]
  have hbus : busFits (takePoll c) := by
    obtain hs | hs | hs := hs <;> simp [takePoll, busFits, holdsBus, hs]
  have hw := h.work
  refine ⟨h.regs, h.data, hfit, hbus, ?_⟩
  unfold workFits at hw ⊢
  obtain hs | hs | hs := hs <;> simp only [takePoll, hs] at hw ⊢ <;> exact hw

theorem answerPoll_good (h : Good n s.cur.entry s.ctx) (sup : Bool) : Good n s.cur.entry (answerPoll sup s).ctx := by
  have hpos : 0 < s.nunits := Nat.zero_lt_of_lt h.regs.currentUnitFits
  unfold answerPoll
  split
  · next hq =>
    simp only [Bool.and_eq_true, beq_iff_eq] at hq
    obtain ⟨hp, -⟩ := hq
    split
    · next hs => exact takePoll_good h (.inl hs)
    · next hs =>
      cases sup
      · exact takePoll_good h (.inr (.inr hs))
      · exact h.withdraw (.inl hp) (by rw [hs]; rfl)
    · next hs =>
      cases sup
      · exact takePoll_good h (.inr (.inl hs))
      · exact h.withdraw (.inl hp) (by rw [hs]; rfl)
    · next hs =>
      split
      · exact h.withdraw (.inl hp) (by rw [hs]; rfl)
      · split
        · next u hu => exact .delivering (h.regs.select (nextReadyUnit_fits hu hpos)) h.data hs (.inl rfl) rfl
        · exact h
    · exact h
  · exact h

theorem endBusy_good (h : Good n e s.ctx) : Good n e (endBusy s).ctx := by
  unfold endBusy
  split
  · next hp =>
    refine h.withdraw (.inr hp) ?_
    have hphase := h.phase
    cases hs : s.ctx.state <;> simp_all [phaseFits]
  · exact h

/-! ## HOLD -/

theorem restStep_good (h : Good n e c) (hs : c.state = .idle ∨ c.state = .wait ∨ c.state = .ready)
    (hsel : c.selected = false) (hp : c.phase = .pNone ∨ c.phase = .pReq) (o : OutTags) : Good n e (restStep o c) := by
  unfold restStep
  split
  · next hready =>
    have howes : c.readyFlags ≠ 0 := fun h0 => by
      rw [restState, if_neg (not_not.mpr h0)] at hready
      split at hready <;> cases hready
    refine ⟨h.regs, h.data, ?_, ?_, fun _ => howes⟩
    · cases o.sup <;> rfl
    · change c.selected = _
      cases o.sup <;> exact hsel
  · next hrest =>
    refine .rest h.regs h.data ?_ hsel
    by_contra hnone
    have hreq := hp.resolve_left hnone
    have hphase := h.phase
    obtain hs | hs | hs := hs
    · simp [hs, hreq, phaseFits] at hphase
    · simp [hs, hreq, phaseFits] at hphase
    · exact hrest (if_pos (h.readyOwes hs hreq))

theorem restOrChained_good (h : Good n e c) (hs : c.state = .idle ∨ c.state = .wait ∨ c.state = .ready)
    (o : OutTags) : Good n e (restOrChained o c) := by
  unfold restOrChained
  split
  · split
    · next hq =>
      unfold chainedWait
      split
      · exact h
      · obtain ⟨-, -, hp⟩ := hq
        exact .rest h.regs h.data hp rfl
    · exact h
  · next hsel =>
    split
    · next hp => exact restStep_good h hs (Bool.eq_false_of_not_eq_true hsel) hp o
    · exact h

theorem Good.raise (h : Good n e c) (hp : c.phase = .pNone)
    (hs : c.state = .request ∨ c.state = .dataEnd ∨ c.state = .stack) : Good n e (Machine.toPhase .pReq c) := by
  refine h.toPhase ?_ (by rw [hp]; rfl) nofun nofun fun hr => ?_
  · obtain hs | hs | hs := hs <;> rw [hs] <;> rfl
  · obtain hs | hs | hs := hs <;> rw [hs] at hr <;> cases hr

theorem gateRequest_good (h : Good n e c) (hs : c.state = .dataEnd ∨ c.state = .stack) (o : OutTags) :
    Good n e (gateRequest o c) := by
  unfold gateRequest
  split
  · next hq => exact h.raise hq.1 (.inr hs)
  · split
    · next hq => exact h.withdraw (.inl hq.1) (by obtain hs | hs := hs <;> rw [hs] <;> rfl)
    · exact h

/-- A step in OPERATE with the current command's device step (R200). -/
theorem operate_good {device : State → State} (h : Good s.params.nsense e s.ctx) (hs : s.ctx.state = .operate)
    (hp : s.ctx.phase = .pNone)
    (hd : ∀ t, t.params = s.params → t.ctx.state = .operate → t.ctx.currentCommand = s.ctx.currentCommand →
      Working s.params.nsense e t.ctx → Good s.params.nsense e (device t).ctx) (o : OutTags) :
    Good s.params.nsense e (operate o device s).ctx := by
  have hw : Working s.params.nsense e (s.mapCtx (keepBus o)).ctx :=
    ⟨⟨h.regs, h.executing (.inl hs)⟩, h.dataOpen (by simp [hs]), hp⟩
  unfold operate
  dsimp only
  split
  · exact Working.operate ⟨⟨hw.regs, hw.executing⟩, hw.dataOpen, hw.quiet⟩ hs
  · exact hd _ rfl hs rfl hw

theorem WorkRow.operate_good (row : WorkRow s.ctx.currentCommand start device) (h : Good s.params.nsense e s.ctx)
    (hs : s.ctx.state = .operate) (hp : s.ctx.phase = .pNone) (o : OutTags) :
    Good s.params.nsense e (operate o device s).ctx :=
  Machine.operate_good h hs hp (fun t ht hst hc hw => by
    rw [← ht] at hw ⊢
    exact row.device_good hw hst hc) o

theorem quietStep_good (h : Good s.params.nsense e s.ctx) (o : OutTags) :
    Good s.params.nsense e (quietStep o s).ctx := by
  unfold quietStep
  cases hs : s.ctx.state <;> dsimp only
  case idle => exact restOrChained_good h (.inl hs) o
  case wait => exact restOrChained_good h (.inr (.inl hs)) o
  case ready => exact restOrChained_good h (.inr (.inr hs)) o
  case operate =>
    split
    · next hp =>
      obtain he | ⟨start, row⟩ := deviceOf_row s.ctx.currentCommand
      · exact operate_good h hs hp (fun t _ hst _ hw => by rw [he]; exact hw.operate hst) o
      · exact row.operate_good h hs hp o
    · exact h
  case request =>
    split
    · next hq => exact h.raise hq.2 (.inl hs)
    · exact h
  case dataEnd =>
    split
    · exact h
    · exact gateRequest_good h (.inl hs) o
  case stack =>
    split
    · exact h
    · exact gateRequest_good h (.inr hs) o
  all_goals exact h

end Sys2Proof.Machine
end

section
/-! O13: the tick, the one instruction and the turn passing on keep the invariants of every controller. -/

namespace Sys2Proof.Machine

variable {n u : Nat} {e : RegEntry} {c : Ctx} {s t : State} {i : Instr} {start device : State → State} {cmd : Byte}

/-! ## The tick -/

theorem Executing.sameUnit {r r' : Regs} (h : Executing cmd r) (hb : r'.busyFlags = r.busyFlags)
    (hr : r'.readyFlags = r.readyFlags) (hu : r'.currentUnit = r.currentUnit) : Executing cmd r' :=
  ⟨h.work, hb ▸ hu ▸ h.notBusy, hr ▸ hu ▸ h.notReady⟩

/-- Recorded sense touches nothing that a state says of its command (R311). -/
theorem Good.senseSet (h : Good n e c) (hu : u < e.nunits) (m : Byte) : Good n e (senseSet u m c) := by
  refine ⟨h.regs.senseSet m hu, h.data, h.phase, h.bus, ?_⟩
  have hw := h.work
  unfold workFits at hw ⊢
  rw [senseSet_state]
  cases hs : c.state <;> rw [hs] at hw <;> dsimp only at hw ⊢
  case command | initStatus => exact ⟨hw.1, hw.2, hw.3, hw.4, hw.5, hw.6⟩
  case operate | request | dataIn | dataOut => exact ⟨hw.1.sameUnit rfl rfl rfl, hw.2⟩
  all_goals exact hw

/-- A busy sub-unit that ends its background action is not the current one of an operation (R253). -/
theorem Good.backgroundDone (h : Good n e c) (hu : u < e.nunits) (hbusy : hasBit c.busyFlags u = true) :
    Good n e (backgroundDone u c) := by
  have keepsBusy : hasBit c.busyFlags c.currentUnit = false →
      hasBit (dropBit c.busyFlags u) c.currentUnit = false := fun hf => by simp [hasBit_dropBit, hf]
  have keepsReady : hasBit c.busyFlags c.currentUnit = false → hasBit c.readyFlags c.currentUnit = false →
      hasBit (addBit c.readyFlags u) c.currentUnit = false := fun hf hr => by
    have hne : c.currentUnit ≠ u := fun he => by simp [he, hbusy] at hf
    simp [hasBit_addBit, hasBit_bit, hr, hne]
  have owes : addBit c.readyFlags u ≠ 0 := fun h0 => by
    have := eq_zero_iff_hasBit.mp h0 u
    simp [hasBit_addBit, hasBit_bit, lt_sixteen_of_hasBit hbusy] at this
  have executing (hx : Executing c.currentCommand c.regs) :
      Executing c.currentCommand (Machine.backgroundDone u c).regs :=
    ⟨hx.work, keepsBusy hx.notBusy, keepsReady hx.notBusy hx.notReady⟩
  refine ⟨h.regs.backgroundDone hu, h.data, h.phase, h.bus, ?_⟩
  have hw := h.work
  unfold workFits at hw ⊢
  rw [backgroundDone_state]
  cases hs : c.state <;> rw [hs] at hw <;> dsimp only at hw ⊢
  case ready => exact fun _ => owes
  case select => exact keepsBusy hw
  case command | initStatus =>
    exact ⟨hw.work, hw.noStatus, hw.dataOpen, hw.noByte, keepsBusy hw.notBusy,
      fun hc => keepsReady hw.notBusy (hw.notReady hc)⟩
  case operate | request | dataIn | dataOut => exact ⟨executing hw.1, hw.2⟩
  case dataEnd => exact hw
  case ending | stack => exact fun hc => ⟨keepsBusy (hw hc).1, keepsReady (hw hc).1 (hw hc).2⟩

theorem tickUnit_good (h : Good n e s.ctx) (hu : u < e.nunits) : Good n e (tickUnit s u).ctx := by
  unfold tickUnit
  dsimp only
  split
  · next hbusy =>
    split
    · split
      · exact h
      · exact h
      · exact h.backgroundDone hu hbusy
      · exact (h.senseSet hu EQUIP_CHECK).backgroundDone hu hbusy
    · exact h.backgroundDone hu hbusy
  · exact h

theorem Good.setCounter (h : Good n e c) (k : Nat) : Good n e { c with bgCounter := k } := by
  refine ⟨h.regs, h.data, h.phase, h.bus, ?_⟩
  have hw := h.work
  unfold workFits at hw ⊢
  dsimp only
  cases hs : c.state <;> rw [hs] at hw <;> dsimp only at hw ⊢
  case command | initStatus => exact ⟨hw.1, hw.2, hw.3, hw.4, hw.5, hw.6⟩
  all_goals exact hw

theorem tick_good (h : Good n s.cur.entry s.ctx) : Good n s.cur.entry (tick s).ctx :=
  tick_keeps (P := fun t => Good n s.cur.entry t.ctx) h (fun _ _ ht => ht.setCounter _)
    fun _ _ hu ht => tickUnit_good ht hu

/-! ## The instruction -/

theorem concludedCommand_good (h : Good s.params.nsense e s.ctx) (cmd : Byte) :
    Good s.params.nsense e (concludedCommand cmd s).ctx := by
  unfold concludedCommand
  split
  · next hs _ =>
    split
    · exact capture_good h hs cmd
    · exact h
  · next hs _ =>
    split
    · split
      · exact h.endAccepted (h.initial (.inr hs)).rewindNotBegun _
      · exact h
    · exact h
  · next hs hp => exact operate_good h hs hp (fun t _ hst _ hw => hw.operate hst) _
  · exact h

/-- Outside capture a command with work meets itself in `currentCommand` (R191, R201). -/
theorem WorkRow.command_good (row : WorkRow cmd start device) (h : Good s.params.nsense e s.ctx)
    (hc : s.ctx.state = .select ∨ cmd = s.ctx.currentCommand) :
    Good s.params.nsense e (workCommand cmd start device s).ctx := by
  unfold workCommand
  split
  · next hs _ =>
    split
    · exact capture_good h hs cmd
    · exact h
  · next hs _ =>
    have hcur := hc.resolve_left (by simp [hs])
    split
    · split
      · exact h.endAccepted (h.initial (.inr hs)).rewindNotBegun _
      · next hd => exact row.begin_good h hs (Bool.eq_false_of_not_eq_true hd) hcur.symm _
    · exact h
  · next hs hp =>
    obtain rfl := hc.resolve_left (by simp [hs])
    exact row.operate_good h hs hp _
  · exact h

/-- Every meaning keeps the invariants of the current context, with a command met where the fetch puts it. -/
theorem Meaning.good (hm : Meaning i s t) (h : Good s.params.nsense s.cur.entry s.ctx)
    (hown : ∀ c, byteOfInstr i = some c → s.ctx.state = .select ∨ c = s.ctx.currentCommand) :
    Good s.params.nsense s.cur.entry t.ctx := by
  cases hm with
  | concluded c => exact concludedCommand_good h c
  | work row own => exact row.command_good h (hown _ own)
  | reset => exact resetCtx_good h
  | halted o => exact halt_good h o
  | selected => exact addressedSelection_good h
  | chained => exact chainedAddress_good h
  | polled sup => exact answerPoll_good h sup
  | abandoned _ _ => exact .rest h.regs h.data rfl rfl
  | addressDropped hs hp => exact h.nextPhase (by rw [hs]; rfl) (by rw [hp]; rfl) rfl nofun
  | commandOut => exact commandOut_good h
  | commandDropped => exact commandDrop_good h
  | serviceOut sup => exact serviceOut_good h sup _
  | stacked => exact stackStatus_good h
  | stopped => exact stopTransfer_good h
  | ackDropped o => exact ackDrop_good h o
  | busyEnded => exact endBusy_good h
  | quiet o => exact quietStep_good h o
  | held => exact h

/-! ## The fetch -/

/-- A tag event has no command byte (R95). -/
theorem byteOfInstr_decodeTags (q : Qual) (o : OutTags) : byteOfInstr (decodeTags q o) = none := by
  have hphase : byteOfInstr (decodePhase q o) = none := by
    unfold decodePhase
    split <;> repeat' split
    all_goals rfl
  unfold decodeTags
  split
  · rfl
  · split
    · rfl
    · split
      · exact hphase
      · split
        · rfl
        · exact hphase

/-- A fetched command byte is on bus-out for a controller in SELECT, or is `currentCommand` (R71, R190, R200). -/
theorem fetch_command (h : s.fetch = .command cmd) : s.ctx.state = .select ∨ cmd = s.ctx.currentCommand := by
  unfold State.fetch at h
  split at h
  · split at h
    · next hs => exact .inl hs
    · cases h
  · split at h
    · cases h; exact .inr rfl
    · cases h
  · split at h
    · cases h; exact .inr rfl
    · cases h
  · cases h

/-- The instruction of a step that is a command is the captured one or the current one. -/
theorem current_own (h : byteOfInstr s.current = some cmd) : s.ctx.state = .select ∨ cmd = s.ctx.currentCommand := by
  unfold State.current at h
  cases hf : s.fetch with
  | command c =>
    rw [hf, decode, byteOfInstr_instrOfByte] at h
    exact fetch_command (Option.some.inj h ▸ hf)
  | tags w =>
    rw [hf, decode, byteOfInstr_decodeTags] at h
    cases h

/-! ## The step -/

theorem mem_controllers {k : Controller} : k ∈ s.controllers ↔ k = s.cur ∨ k ∈ s.before ∨ k ∈ s.after := by
  simp only [State.controllers, List.mem_append, List.mem_cons]
  tauto

/-- The invariants hold of every controller when they hold of the current one and only its context changed. -/
theorem Inv.keep (h : Inv s) (hf : OnlyCurrent s t) (hcur : CtxInv t.params t.cur) : Inv t := by
  intro k hk
  obtain rfl | hk := mem_controllers.mp hk
  · exact hcur
  · rw [hf.before, hf.after] at hk
    exact hf.params ▸ h k (mem_controllers.mpr (.inr hk))

/-- A controller of the frame with a good context meets its invariants. -/
theorem OnlyCurrent.ctxInv (hf : OnlyCurrent s t) (h : Good s.params.nsense s.cur.entry t.ctx) :
    CtxInv t.params t.cur := by
  rw [← hf.params, ← hf.entry] at h
  exact h.ctxInv

/-- Settles O13: the tick and the instruction keep the current context good, and touch no other controller. -/
theorem stepKeepsInv : Obligations.StepKeepsInv := by
  intro s t h hstep
  obtain ⟨hlegal, v, hexec, rfl⟩ := step_next hstep
  have hcur : s.cur ∈ s.controllers := mem_controllers.mpr (.inl rfl)
  have hgood : Good s.params.nsense s.cur.entry s.ctx := (h _ hcur).good (nunits_of_legal hlegal hcur).2
  have htick : Good (tick s).params.nsense (tick s).cur.entry (tick s).ctx := by
    rw [(tick_frame s).params, (tick_frame s).entry]
    exact tick_good hgood
  have hinv : Inv (tick s) := h.keep (tick_frame s) htick.ctxInv
  have hframe : OnlyCurrent (tick s) v := onlyOwnContext _ _ _ hexec
  have hv : Inv v := hinv.keep hframe (hframe.ctxInv ((exec_meaning hexec).good htick fun _ => current_own))
  intro k hk
  rw [advance_controllers] at hk
  rw [advance_params]
  exact hv k hk

end Sys2Proof.Machine
end

section
/-! O1 to O4: the decoder and the encoder. An instruction is read from a cycle exactly when it is well formed, qualified
by the context and has the lines of that cycle (`decodeTags_eq_iff`); on the 256 command bytes the two tables are each
other's inverse. -/

namespace Sys2Proof

variable {q : Qual} {o : OutTags} {i : Instr} {c : Byte}

/-! ## Words -/

/-- Packing drops no line (R93). -/
@[simp] theorem OutTags.ofWord_word (o : OutTags) : OutTags.ofWord o.word = o := by
  obtain ⟨opr, sel, hld, adr, cmd, srv, sup⟩ := o
  revert opr sel hld adr cmd srv sup
  decide

/-- Unpacking drops no bit (R93). -/
@[simp] theorem OutTags.word_ofWord : ∀ w : BitVec 7, (OutTags.ofWord w).word = w := by decide

theorem encode_of_byte (h : byteOfInstr i = some c) : encode i = .command c := by
  rw [encode, h]

theorem encode_of_tags (hb : byteOfInstr i = none) (h : tagsOfInstr i = some o) : encode i = .tags o.word := by
  rw [encode, hb, h]

/-- The two formats (R83, R95): a command has a byte and needs no context, a tag event has out-tags and no byte. -/
theorem command_or_tagEvent (i : Instr) :
    (∃ c, byteOfInstr i = some c ∧ ∀ q, qualifies q i = true) ∨
      (byteOfInstr i = none ∧ ∃ o, tagsOfInstr i = some o) := by
  cases i
  case tio | wr | rd | ctl | sns | rdb | rew | run | erg | wtm | bsb | bsf | fsb | fsf | illegal =>
    exact .inl ⟨_, rfl, fun _ => rfl⟩
  all_goals exact .inr ⟨rfl, _, rfl⟩

/-- A command is not read from the out-tags, so every context allows it. -/
theorem qualifies_of_byte (h : byteOfInstr i = some c) (q : Qual) : qualifies q i = true := by
  obtain ⟨-, -, hq⟩ | ⟨hb, -⟩ := command_or_tagEvent i
  · exact hq q
  · cases hb.symm.trans h

/-! ## Command bytes -/

theorem wellFormed_instrOfByte : ∀ c : Byte, wellFormed (instrOfByte c) = true := by decide

theorem instrOfByte_ctl : ∀ m : BitVec 5, instrOfByte (m ++ (3 : BitVec 3)) = .ctl m := by decide

/-- A byte that is not legal is ILLEGAL (R85). -/
theorem instrOfByte_of_not_legal : ∀ c : Byte, legal c = false → instrOfByte c = .illegal c := by decide

/-- The decoder reads a well-formed command from its own byte (R84). -/
theorem instrOfByte_of_byte (hwf : wellFormed i = true) (h : byteOfInstr i = some c) : instrOfByte c = i := by
  cases i
  case ctl m => cases h; exact instrOfByte_ctl m
  case illegal b => cases h; exact instrOfByte_of_not_legal c (by simpa [wellFormed] using hwf)
  case tio | wr | rd | sns | rdb | rew | run | erg | wtm | bsb | bsf | fsb | fsf => cases h; rfl
  all_goals cases h

/-! ## The patterns of R97 to R103, each as the lines it fixes -/

theorem OutTags.eq_of_isSelect (h : o.isSelect = true) : ⟨true, true, true, true, false, false, o.sup⟩ = o := by
  cases o; simp_all [OutTags.isSelect]

theorem OutTags.eq_of_isPoll (h : o.isPoll = true) : ⟨true, true, true, false, false, false, o.sup⟩ = o := by
  cases o; simp_all [OutTags.isPoll]

theorem OutTags.eq_of_isHalt (h : o.isHalt = true) : ⟨true, false, o.hld, true, o.cmd, o.srv, o.sup⟩ = o := by
  cases o; simp_all [OutTags.isHalt]

theorem OutTags.eq_of_isCommandOut (h : o.isCommandOut = true) :
    ⟨true, o.sel, o.hld, o.adr, true, false, o.sup⟩ = o := by
  cases o; simp_all [OutTags.isCommandOut]

theorem OutTags.eq_of_isServiceOut (h : o.isServiceOut = true) :
    ⟨true, o.sel, o.hld, o.adr, false, true, o.sup⟩ = o := by
  cases o; simp_all [OutTags.isServiceOut]

theorem OutTags.eq_of_isAckDrop (h : o.isAckDrop = true) :
    ⟨true, o.sel, o.hld, o.adr, false, false, o.sup⟩ = o := by
  cases o; simp_all [OutTags.isAckDrop]

/-! ## The stages of R113 -/

theorem decodeTags_reset (h : o.opr = false) : decodeTags q o = .ereset o.sel o.hld o.adr o.cmd o.srv o.sup := by
  simp [decodeTags, h]

theorem decodeTags_halt (hs : q.selected = true) (h : o.isHalt = true) :
    decodeTags q o = .ehalt o.hld o.cmd o.srv o.sup := by
  have hopr : o.opr = true := by rw [← OutTags.eq_of_isHalt h]
  simp [decodeTags, hopr, hs, h]

/-- Stage 3 of R113 in the words of the qualifier. -/
theorem haltFirst_eq (hopr : o.opr = true) : q.haltFirst o.sel o.adr = (q.selected && o.isHalt) := by
  simp [Qual.haltFirst, OutTags.isHalt, hopr, Bool.and_assoc]

/-- ESEL is in P_NONE and P_REQ only (R97), so the short busy sequence needs no stage of its own. -/
theorem selects_phase (h : selects q o = true) : q.phase = .pNone ∨ q.phase = .pReq := by
  simp only [selects, Bool.and_eq_true, Bool.or_eq_true, beq_iff_eq] at h
  obtain ⟨⟨⟨-, hp⟩, -⟩, -⟩ := h
  exact hp

theorem decodeTags_select (h : selects q o = true) : decodeTags q o = .esel o.sup := by
  have hbusy : q.phase ≠ .pBusy := fun hb => by simpa [hb] using selects_phase h
  have hsel := h
  simp only [selects, Bool.and_eq_true, Bool.not_eq_true'] at hsel
  obtain ⟨⟨⟨⟨hpat, hfree⟩, -⟩, -⟩, -⟩ := hsel
  have hopr : o.opr = true := by rw [← OutTags.eq_of_isSelect hpat]
  simp [decodeTags, hopr, hfree, hbusy, h]

/-- Past the stages of EHALT and ESEL the phase decides (R104). -/
theorem decodeTags_phase (hopr : o.opr = true) (hhalt : q.haltFirst o.sel o.adr = false)
    (hsel : selects q o = false) : decodeTags q o = decodePhase q o := by
  rw [haltFirst_eq hopr] at hhalt
  simp [decodeTags, hopr, hhalt, hsel]

/-! ## Reading a cycle -/

/-- What the decoder is to read from the lines of a cycle (R95): an instruction that has its operands, is qualified by the
context, and has exactly these lines. -/
structure ReadFrom (q : Qual) (o : OutTags) (i : Instr) : Prop where
  wf : wellFormed i = true
  qual : qualifies q i = true
  tags : tagsOfInstr i = some o

/-- The phase decides by its own event when the lines have its pattern, and else by HOLD (R104, R105). -/
theorem decodePhase_hold_or_event (hopr : o.opr = true) (hhalt : q.haltFirst o.sel o.adr = false) :
    decodePhase q o = .hold o ∨ ReadFrom q o (decodePhase q o) := by
  unfold decodePhase
  cases hp : q.phase <;> dsimp only
  case pNone =>
    split
    · next h =>
      simp only [Bool.and_eq_true] at h
      obtain ⟨⟨hsel, hchain⟩, hpat⟩ := h
      exact .inr ⟨rfl, by simp [qualifies, hp, hsel, hchain], congrArg some (OutTags.eq_of_isSelect hpat)⟩
    · exact .inl rfl
  case pAddrWait =>
    split
    · exact .inl rfl
    · next hadr =>
      split
      · next hsel => exact .inr ⟨hsel, by simp [qualifies, hp], by cases o; simp_all [tagsOfInstr]⟩
      · next hsel => exact .inr ⟨rfl, by simp [qualifies, hp], by cases o; simp_all [tagsOfInstr]⟩
  case pAddrIn =>
    split
    · next h => exact .inr ⟨rfl, by simp [qualifies, hp, hhalt], congrArg some (OutTags.eq_of_isCommandOut h)⟩
    · exact .inl rfl
  case pCmdWait =>
    split
    · exact .inl rfl
    · next hcmd => exact .inr ⟨rfl, by simp [qualifies, hp, hhalt], by cases o; simp_all [tagsOfInstr]⟩
  case pStatus | pService =>
    split
    · next h => exact .inr ⟨rfl, by simp [qualifies, hp, hhalt], congrArg some (OutTags.eq_of_isServiceOut h)⟩
    · split
      · next h => exact .inr ⟨rfl, by simp [qualifies, hp, hhalt], congrArg some (OutTags.eq_of_isCommandOut h)⟩
      · exact .inl rfl
  case pStatusAck | pServiceAck =>
    split
    · next h => exact .inr ⟨rfl, by simp [qualifies, hp, hhalt], congrArg some (OutTags.eq_of_isAckDrop h)⟩
    · exact .inl rfl
  case pReq =>
    split
    · next h =>
      simp only [Bool.and_eq_true] at h
      obtain ⟨⟨hpat, hfree⟩, hsup⟩ := h
      exact .inr ⟨rfl, by simpa [qualifies, hp, hfree] using hsup, congrArg some (OutTags.eq_of_isPoll hpat)⟩
    · exact .inl rfl
  case pBusy =>
    split
    · next hsel =>
      rw [Bool.not_eq_true'] at hsel
      rw [hsel] at hhalt
      exact .inr ⟨rfl, by simp [qualifies, hp, hhalt], by cases o; simp_all [tagsOfInstr]⟩
    · next hsel =>
      split
      · next hadr =>
        exact .inr ⟨by simpa [wellFormed] using hsel, by simp [qualifies, hp], by cases o; simp_all [tagsOfInstr]⟩
      · exact .inl rfl

/-- Whatever the cycle and the context, the decoder reads the one as the other allows (R95, R104, R105). -/
theorem readFrom_decodeTags (q : Qual) (o : OutTags) : ReadFrom q o (decodeTags q o) := by
  cases hopr : o.opr
  case false =>
    rw [decodeTags_reset hopr]
    exact ⟨rfl, rfl, by cases o; simp_all [tagsOfInstr]⟩
  cases hhalt : q.haltFirst o.sel o.adr
  case true =>
    rw [haltFirst_eq hopr, Bool.and_eq_true] at hhalt
    obtain ⟨hs, hpat⟩ := hhalt
    rw [decodeTags_halt hs hpat]
    exact ⟨rfl, hs, congrArg some (OutTags.eq_of_isHalt hpat)⟩
  cases hsel : selects q o
  case true =>
    rw [decodeTags_select hsel]
    simp only [selects, Bool.and_assoc] at hsel
    rw [Bool.and_eq_true] at hsel
    obtain ⟨hpat, hq⟩ := hsel
    exact ⟨rfl, by simpa only [qualifies, Bool.and_assoc] using hq, congrArg some (OutTags.eq_of_isSelect hpat)⟩
  have hdec := decodeTags_phase hopr hhalt hsel
  obtain hhold | hevent := decodePhase_hold_or_event hopr hhalt
  · rw [hdec, hhold]
    exact ⟨hopr, by simp [qualifies, hdec, hhold], rfl⟩
  · rwa [hdec]

/-- An event of a phase outside P_NONE and P_REQ is read when EHALT does not come first (R104). -/
theorem decodeTags_phase_event (hp : q.phase ≠ .pNone ∧ q.phase ≠ .pReq) (hopr : o.opr = true)
    (hhalt : q.haltFirst o.sel o.adr = false) (h : decodePhase q o = i) : decodeTags q o = i := by
  have hsel : selects q o = false := Bool.eq_false_of_not_eq_true fun hs => (selects_phase hs).elim hp.1 hp.2
  rw [decodeTags_phase hopr hhalt hsel, h]

/-- No other instruction could be read from the cycle in that context. -/
theorem decodeTags_of_readFrom (h : ReadFrom q o i) : decodeTags q o = i := by
  obtain ⟨hwf, hq, ht⟩ := h
  cases i <;> cases ht
  case ereset => exact decodeTags_reset rfl
  case ehalt => exact decodeTags_halt hq rfl
  case hold => simpa [qualifies] using hq
  case esel => exact decodeTags_select (by simpa [selects, OutTags.isSelect, qualifies] using hq)
  all_goals
    simp only [qualifies, wellFormed, Bool.and_eq_true, Bool.or_eq_true, beq_iff_eq, Bool.not_eq_true'] at hwf hq
  case echain =>
    obtain ⟨⟨hp, hs⟩, hc⟩ := hq
    rw [decodeTags_phase rfl (by simp [Qual.haltFirst]) (by simp [selects, hs])]
    simp [decodePhase, hp, hs, hc, OutTags.isSelect]
  case epoll =>
    obtain ⟨⟨hp, hfree⟩, hsup⟩ := hq
    rw [decodeTags_phase rfl (by simp [Qual.haltFirst]) (by simp [selects, OutTags.isSelect])]
    simp [decodePhase, hp, hfree, hsup, OutTags.isPoll]
  case eabandon =>
    exact decodeTags_phase_event (by simp [hq]) rfl (by simp [Qual.haltFirst]) (by simp [decodePhase, hq])
  case eadrop | ebusyendAdr0 =>
    exact decodeTags_phase_event (by simp [hq]) rfl (by simp [Qual.haltFirst]) (by simp [decodePhase, hq, hwf])
  all_goals obtain ⟨hp, hhalt⟩ := hq
  case ecmd | estack | estop =>
    exact decodeTags_phase_event (by simp [hp]) rfl hhalt
      (by simp [decodePhase, hp, OutTags.isCommandOut, OutTags.isServiceOut])
  case ecmddrop | ebusyendSel0 => exact decodeTags_phase_event (by simp [hp]) rfl hhalt (by simp [decodePhase, hp])
  case eaccept =>
    obtain hp | hp := hp <;>
      exact decodeTags_phase_event (by simp [hp]) rfl hhalt (by simp [decodePhase, hp, OutTags.isServiceOut])
  case eackdrop =>
    obtain hp | hp := hp <;>
      exact decodeTags_phase_event (by simp [hp]) rfl hhalt (by simp [decodePhase, hp, OutTags.isAckDrop])

/-- The decoder of the out-tags, said once: it reads the one instruction that the cycle and the context allow. -/
theorem decodeTags_eq_iff : decodeTags q o = i ↔ ReadFrom q o i :=
  ⟨fun h => h ▸ readFrom_decodeTags q o, decodeTags_of_readFrom⟩

/-! ## The two round trips and the tables -/

/-- Settles O1: a command is read from its byte, a tag event from its lines. -/
theorem decodeOfEncode : Obligations.DecodeOfEncode := by
  intro q i hwf hq
  obtain ⟨c, hc, -⟩ | ⟨hb, o, ho⟩ := command_or_tagEvent i
  · rw [encode_of_byte hc]
    exact instrOfByte_of_byte hwf hc
  · rw [encode_of_tags hb ho, decode, OutTags.ofWord_word]
    exact decodeTags_eq_iff.mpr ⟨hwf, hq, ho⟩

/-- Settles O2: a command byte by the command map, a pattern of out-tags by what is read from a cycle. -/
theorem encodeOfDecode : Obligations.EncodeOfDecode := by
  intro q w
  cases w with
  | command c =>
    have hbyte := Machine.byteOfInstr_instrOfByte c
    exact ⟨wellFormed_instrOfByte c, qualifies_of_byte hbyte q, encode_of_byte hbyte⟩
  | tags w =>
    obtain ⟨hwf, hq, htags⟩ := readFrom_decodeTags q (OutTags.ofWord w)
    have hnone := Machine.byteOfInstr_decodeTags q (OutTags.ofWord w)
    exact ⟨hwf, hq, by rw [decode, encode_of_tags hnone htags, OutTags.word_ofWord]⟩

/-- A byte with class 3 is CTL, with the rest of the byte as its modifier (R84). -/
theorem instrOfByte_class3 : ∀ c : Byte,
    c &&& 0x07 = 0x03 → instrOfByte c = .ctl (BitVec.ofNat 5 (c.toNat / 8)) := by
  decide

/-- A byte that no fixed row and not CTL matches is ILLEGAL (R84, R85). -/
theorem instrOfByte_unmatched : ∀ c : Byte, c &&& 0x07 ≠ 0x03 →
    c ∉ [0x00, 0x01, 0x02, 0x04, 0x0C, 0x07, 0x0F, 0x17, 0x1F, 0x27, 0x2F, 0x37, 0x3F] →
    instrOfByte c = .illegal c := by
  decide

/-- Settles O3: the fixed rows one by one, the other two over all bytes. -/
theorem commandMap : Obligations.CommandMap :=
  ⟨rfl, rfl, rfl, instrOfByte_class3, rfl, rfl, rfl, rfl, rfl, rfl, rfl, rfl, rfl, rfl, instrOfByte_unmatched⟩

/-- Settles O4: each word is evaluated. -/
theorem tagWordsDecode : Obligations.TagWordsDecode := ⟨rfl, rfl, rfl, rfl, rfl, rfl, rfl, rfl⟩

end Sys2Proof
end

section
/-! O18: outside the phase of its event, the meaning of a tag event leaves the state as it is (log entry 6). -/

namespace Sys2Proof.Machine

variable {s : State} {c : Ctx} {o : OutTags} {sup : Bool} {w : BusWord}

/-- A change of the context that changes nothing leaves the state. -/
theorem State.mapCtx_of_fixed {f : Ctx → Ctx} (h : f s.ctx = s.ctx) : s.mapCtx f = s := by
  rw [State.mapCtx_eq, h, State.setCtx_ctx_self]

/-! ## Selection -/

theorem addressedSelection_outOfPhase (h : s.ctx.phase ≠ .pNone) (h' : s.ctx.phase ≠ .pReq) :
    addressedSelection s = s := by
  simp [addressedSelection, h, h']

theorem answerPoll_outOfPhase (h : s.ctx.phase ≠ .pReq) : answerPoll sup s = s := by
  simp [answerPoll, h]

theorem endBusy_outOfPhase (h : s.ctx.phase ≠ .pBusy) : endBusy s = s := if_neg h

/-! ## The handshake -/

theorem commandOut_outOfPhase (h : s.ctx.phase ≠ .pAddrIn) : commandOut s = s := by
  unfold commandOut
  split
  case h_6 => rfl
  all_goals exact absurd ‹s.ctx.phase = .pAddrIn› h

theorem commandDrop_outOfPhase (h : c.phase ≠ .pCmdWait) : commandDrop c = c := by
  unfold commandDrop
  split
  case h_6 => rfl
  all_goals exact absurd ‹c.phase = .pCmdWait› h

theorem serviceOut_outOfPhase (h : c.phase ≠ .pStatus) (h' : c.phase ≠ .pService) : serviceOut sup w c = c := by
  unfold serviceOut
  split
  case h_1 | h_2 | h_3 => exact absurd ‹c.phase = .pStatus› h
  case h_4 | h_5 => exact absurd ‹c.phase = .pService› h'
  case h_6 => rfl

theorem stackStatus_outOfPhase (h : c.phase ≠ .pStatus) : stackStatus c = c := by
  unfold stackStatus
  split
  case h_4 => rfl
  all_goals exact absurd ‹c.phase = .pStatus› h

theorem stopTransfer_outOfPhase (h : c.phase ≠ .pService) : stopTransfer c = c := by
  unfold stopTransfer
  split
  case h_3 => rfl
  all_goals exact absurd ‹c.phase = .pService› h

theorem ackDrop_outOfPhase (h : s.ctx.phase ≠ .pStatusAck) (h' : s.ctx.phase ≠ .pServiceAck) : ackDrop o s = s := by
  unfold ackDrop
  split
  case h_2 | h_3 => exact absurd ‹s.ctx.phase = .pServiceAck› h'
  case h_7 => rfl
  all_goals exact absurd ‹s.ctx.phase = .pStatusAck› h

/-- Settles O18: `exec` runs the event's meaning, and each meaning holds outside its phase. -/
theorem eventOutOfPhaseHolds : Obligations.EventOutOfPhaseHolds := by
  intro s
  have hnext {t : State} (h : t = s) : (.next t : Host.Outcome State Fault Refusal) = .next s := congrArg _ h
  refine ⟨?esel, ?epoll, ?eabandon, ?ecmd, ?ecmddrop, ?eaccept, ?estack, ?estop, ?eackdrop, ?ebusyend⟩
  case esel => exact fun h h' _ => hnext (addressedSelection_outOfPhase h h')
  case epoll => exact fun h _ => hnext (answerPoll_outOfPhase h)
  case eabandon => exact fun h _ _ _ _ _ => ⟨hnext (if_neg fun hs => h hs.2), hnext (if_neg fun hs => h hs.2)⟩
  case ecmd => exact fun h _ _ _ _ => hnext (commandOut_outOfPhase h)
  case ecmddrop => exact fun h _ _ _ _ _ => hnext (State.mapCtx_of_fixed (commandDrop_outOfPhase h))
  case eaccept => exact fun h h' _ _ _ _ => hnext (State.mapCtx_of_fixed (serviceOut_outOfPhase h h'))
  case estack => exact fun h _ _ _ _ => hnext (State.mapCtx_of_fixed (stackStatus_outOfPhase h))
  case estop => exact fun h _ _ _ _ => hnext (State.mapCtx_of_fixed (stopTransfer_outOfPhase h))
  case eackdrop => exact fun h h' _ _ _ _ => hnext (ackDrop_outOfPhase h h')
  case ebusyend => exact fun h _ _ _ _ _ _ => ⟨hnext (endBusy_outOfPhase h), hnext (endBusy_outOfPhase h)⟩

end Sys2Proof.Machine
end

section
/-! O15: what writes the status and the sense bytes. Every rule that does so writes bits of R88 and R90 that are in use;
any other rule leaves both registers, and then `UnusedBitsClear` of the context before is that of the context after. -/

namespace Sys2Proof.Machine

variable {c d : Ctx} {s t : State} {i : Instr} {o : OutTags} {x y m cmd : Byte} {u : Nat} {st : CState} {ph : Phase}
  {w : BusWord} {start device : State → State}

/-! ## The writers of the two registers -/

/-- Bits that neither of two bytes has, their OR does not have. -/
theorem or_and_eq_zero {k : Byte} (hx : x &&& k = 0) (hy : y &&& k = 0) : (x ||| y) &&& k = 0 := by
  rw [BitVec.and_or_distrib_right, hx, hy]; rfl

/-- A status byte without ATTN, SM and CUE (R88). -/
def UsedStatus (x : Byte) : Prop := x &&& (ATTN ||| SM ||| CUE) = 0

/-- A mask of flags of sense byte 0 that some rule sets (R90). -/
def UsedSense (m : Byte) : Prop := m &&& (DATA_CHECK ||| DCC ||| 0x01) = 0

theorem usedStatus_zero : UsedStatus 0x00 := rfl
theorem usedStatus_busy : UsedStatus BUSY := rfl
theorem usedStatus_channelEnd : UsedStatus CE := rfl
theorem usedStatus_deviceEnd : UsedStatus DE := rfl
theorem usedStatus_unitCheck : UsedStatus UC := rfl
theorem usedStatus_unitException : UsedStatus UE := rfl
theorem usedStatus_ends : UsedStatus (CE ||| DE) := rfl

theorem UsedStatus.or (hx : UsedStatus x) (hy : UsedStatus y) : UsedStatus (x ||| y) := or_and_eq_zero hx hy

theorem UsedStatus.ite {p : Prop} [Decidable p] (hx : UsedStatus x) (hy : UsedStatus y) :
    UsedStatus (if p then x else y) := by
  split <;> assumption

theorem usedSense_commandReject : UsedSense CMD_REJECT := rfl
theorem usedSense_interventionRequired : UsedSense INT_REQ := rfl
theorem usedSense_busCheck : UsedSense BUS_CHECK := rfl
theorem usedSense_equipmentCheck : UsedSense EQUIP_CHECK := rfl
theorem usedSense_overrun : UsedSense OVERRUN := rfl

theorem UsedSense.or (hx : UsedSense x) (hy : UsedSense y) : UsedSense (x ||| y) := or_and_eq_zero hx hy

/-- A write of a byte in use to `status`, beside the sense bytes. -/
theorem UnusedBitsClear.writeStatus (h : UnusedBitsClear c) (hx : UsedStatus d.status)
    (hs : d.senseBytes = c.senseBytes) : UnusedBitsClear d := by
  obtain ⟨-, hfirst, hlater⟩ := h
  exact ⟨hx, hs ▸ hfirst, hs ▸ hlater⟩

theorem UnusedBitsClear.addStatus (h : UnusedBitsClear c) (hx : UsedStatus x) :
    UnusedBitsClear (addStatus x c) :=
  h.writeStatus (UsedStatus.or h.1 hx) rfl

/-- The sense bytes that meet R32 and R90. -/
def UsedSenseBytes (bs : List Byte) : Prop := UsedSense (bs.headD 0) ∧ ∀ b ∈ bs.tail, b = 0

theorem unusedBitsClear_iff : UnusedBitsClear c ↔ UsedStatus c.status ∧ UsedSenseBytes c.senseBytes := Iff.rfl

theorem usedSenseBytes_zeroBytes (bs : List Byte) : UsedSenseBytes (zeroBytes bs) := by
  refine ⟨?_, fun b hb => mem_zeroBytes (List.mem_of_mem_tail hb)⟩
  cases bs <;> exact BitVec.zero_and

/-- A flag goes to sense byte 0 and to no later byte. -/
theorem UsedSenseBytes.orFirst {bs : List Byte} (h : UsedSenseBytes bs) (hm : UsedSense m) :
    UsedSenseBytes (orFirst m bs) := by
  cases bs with
  | nil => exact h
  | cons b bs => exact ⟨UsedSense.or h.1 hm, h.2⟩

/-- Recording an error writes a flag in use, over the sense bytes as they were or over zeroes (R311). -/
theorem UnusedBitsClear.senseSet (h : UnusedBitsClear c) (hm : UsedSense m) :
    UnusedBitsClear (senseSet u m c) := by
  obtain ⟨hstatus, hsense⟩ := unusedBitsClear_iff.mp h
  refine unusedBitsClear_iff.mpr ⟨hstatus, ?_⟩
  rw [senseSet_senseBytes]
  split
  · exact (usedSenseBytes_zeroBytes _).orFirst hm
  · exact hsense.orFirst hm

theorem UnusedBitsClear.senseCurrent (h : UnusedBitsClear c) (hm : UsedSense m) :
    UnusedBitsClear (senseCurrent m c) := h.senseSet hm

/-! ## The end of an operation -/

theorem addUnitCheck_unused (h : UnusedBitsClear c) : UnusedBitsClear (addUnitCheck c) := by
  unfold addUnitCheck
  split
  · exact h.addStatus usedStatus_unitCheck
  · exact h

theorem enterDataEnd_unused (h : UnusedBitsClear s.ctx) : UnusedBitsClear (enterDataEnd s).ctx := by
  rw [enterDataEnd, State.mapCtx_ctx, presentEnding_eq, withholdDeviceEnd_eq]
  exact addUnitCheck_unused
    (closeRecord_keeps h (fun _ hc => hc) (fun _ hc => hc.senseCurrent usedSense_equipmentCheck)
      fun _ hc => hc.addStatus usedStatus_unitException)

theorem endData_unused (h : UnusedBitsClear s.ctx) (hx : UsedStatus x) :
    UnusedBitsClear (endData x s).ctx := enterDataEnd_unused (h.addStatus hx)

theorem endMotion_unused (h : UnusedBitsClear s.ctx) : UnusedBitsClear (endMotion s).ctx :=
  enterDataEnd_unused (h.addStatus usedStatus_ends)

theorem clearSense_unused (h : UnusedBitsClear c) : UnusedBitsClear (clearSense c) := by
  unfold clearSense
  split
  · exact unusedBitsClear_iff.mpr ⟨h.1, usedSenseBytes_zeroBytes _⟩
  · exact h

theorem endAccepted_unused (h : UnusedBitsClear s.ctx) : UnusedBitsClear (endAccepted o s).ctx := by
  rw [endAccepted_eq]
  exact (clearSense_unused h).writeStatus usedStatus_zero (by rw [clearSense_eq]; rfl)

/-! ## The work of a command -/

theorem offerByte_unused (h : UnusedBitsClear s.ctx) : UnusedBitsClear (offerByte s).ctx := by
  rw [offerByte_eq, State.setCtx_ctx]; split <;> exact h

theorem requestByte_unused (h : UnusedBitsClear s.ctx) : UnusedBitsClear (requestByte s).ctx := by
  rw [requestByte_eq, State.setCtx_ctx]; split <;> exact h

theorem drawOverrun_unused (h : UnusedBitsClear s.ctx) : UnusedBitsClear (drawOverrun s).ctx :=
  drawOverrun_keeps h fun _ hc => hc.senseCurrent usedSense_overrun

theorem openWrite_unused (h : UnusedBitsClear s.ctx) : UnusedBitsClear (startWr.openWrite s).ctx := by
  unfold startWr.openWrite
  rw [State.mapCtx_ctx]
  split <;> exact h

theorem fetchSense_unused (h : UnusedBitsClear s.ctx) : UnusedBitsClear (fetchSense s).ctx := by
  unfold fetchSense
  dsimp only
  split <;> exact h

theorem beginWork_unused (h : UnusedBitsClear s.ctx) : UnusedBitsClear (beginWork o s).ctx :=
  h.writeStatus usedStatus_zero rfl

theorem startWr_unused (h : UnusedBitsClear s.ctx) : UnusedBitsClear (startWr s).ctx := by
  unfold startWr
  dsimp only
  split
  · exact endData_unused (h.senseCurrent usedSense_equipmentCheck) usedStatus_ends
  · exact openWrite_unused (h.addStatus usedStatus_unitException)
  · exact openWrite_unused h
  · exact openWrite_unused h

theorem startRd_unused (h : UnusedBitsClear s.ctx) : UnusedBitsClear (startRd s).ctx := by
  unfold startRd
  dsimp only
  split
  · exact h
  · exact endData_unused h (usedStatus_ends.or usedStatus_unitException)
  all_goals exact endData_unused (h.senseCurrent usedSense_equipmentCheck) usedStatus_ends

theorem startRdb_unused (h : UnusedBitsClear s.ctx) : UnusedBitsClear (startRdb s).ctx := by
  unfold startRdb
  dsimp only
  split
  · exact h
  · exact endData_unused h (usedStatus_ends.or usedStatus_unitException)
  · exact endData_unused (h.senseCurrent usedSense_commandReject) usedStatus_ends
  · exact endData_unused (h.senseCurrent usedSense_equipmentCheck) usedStatus_ends

theorem WorkRow.start_unused (row : WorkRow cmd start device) (h : UnusedBitsClear s.ctx) :
    UnusedBitsClear (start s).ctx := by
  cases row
  case wr => exact startWr_unused h
  case rd => exact startRd_unused h
  case rdb => exact startRdb_unused h
  all_goals exact h

theorem deviceWr_unused (h : UnusedBitsClear s.ctx) : UnusedBitsClear (deviceWr s).ctx := by
  unfold deviceWr
  split
  · have hdrawn : UnusedBitsClear (drawOverrun ((s.noteCall s.ctx.currentUnit (.writeFrame s.ctx.dataByte)).mapCtx
        fun c => { c with dataReady := false })).ctx := drawOverrun_unused h
    dsimp only
    split
    · exact endData_unused (hdrawn.senseCurrent usedSense_equipmentCheck) usedStatus_ends
    · exact requestByte_unused (hdrawn.addStatus usedStatus_unitException)
    · exact requestByte_unused hdrawn
    · exact requestByte_unused hdrawn
  · exact requestByte_unused h

theorem deviceRead_unused (h : UnusedBitsClear s.ctx) : UnusedBitsClear (deviceRead s).ctx := by
  unfold deviceRead
  split
  · exact offerByte_unused h
  · dsimp only
    split
    · exact offerByte_unused (drawOverrun_unused h)
    · exact endData_unused h usedStatus_ends
    all_goals exact endData_unused (h.senseCurrent usedSense_equipmentCheck) usedStatus_ends

theorem deviceSns_unused (h : UnusedBitsClear s.ctx) : UnusedBitsClear (deviceSns s).ctx := by
  unfold deviceSns
  split
  · exact offerByte_unused h
  · split
    · exact offerByte_unused (fetchSense_unused h)
    · exact endData_unused h usedStatus_ends

theorem deviceWtm_unused (h : UnusedBitsClear s.ctx) : UnusedBitsClear (deviceWtm s).ctx := by
  unfold deviceWtm
  dsimp only
  split
  · exact endMotion_unused h
  · exact endMotion_unused h
  · exact endMotion_unused (h.addStatus usedStatus_unitException)
  · exact endMotion_unused (h.senseCurrent usedSense_equipmentCheck)

theorem skipCalls_unused {k : CodecCall} (h : UnusedBitsClear s.ctx) : UnusedBitsClear (skipCalls k s).ctx := by
  rwa [skipCalls_ctx]

/-- A failed space ends with its sense recorded (R245 to R248). -/
theorem skipCalls_sense_unused {k : CodecCall} (h : UnusedBitsClear s.ctx) (hm : UsedSense m) :
    UnusedBitsClear (endMotion ((skipCalls k s).mapCtx (Machine.senseCurrent m))).ctx :=
  endMotion_unused ((skipCalls_unused h).senseCurrent hm)

theorem deviceBsb_unused (h : UnusedBitsClear s.ctx) : UnusedBitsClear (deviceBsb s).ctx := by
  unfold deviceBsb
  dsimp only
  split
  · exact endMotion_unused (skipCalls_unused h)
  · exact endMotion_unused ((skipCalls_unused h).addStatus usedStatus_unitException)
  · exact skipCalls_sense_unused h usedSense_commandReject
  · exact skipCalls_sense_unused h usedSense_equipmentCheck

theorem deviceFsb_unused (h : UnusedBitsClear s.ctx) : UnusedBitsClear (deviceFsb s).ctx := by
  unfold deviceFsb
  dsimp only
  split
  · exact endMotion_unused (skipCalls_unused h)
  · exact endMotion_unused ((skipCalls_unused h).addStatus usedStatus_unitException)
  all_goals exact skipCalls_sense_unused h usedSense_equipmentCheck

theorem deviceBsf_unused (h : UnusedBitsClear s.ctx) : UnusedBitsClear (deviceBsf s).ctx := by
  unfold deviceBsf
  dsimp only
  split
  · exact skipCalls_unused h
  · exact endMotion_unused (skipCalls_unused h)
  · exact skipCalls_sense_unused h usedSense_commandReject
  · exact skipCalls_sense_unused h usedSense_equipmentCheck

theorem deviceFsf_unused (h : UnusedBitsClear s.ctx) : UnusedBitsClear (deviceFsf s).ctx := by
  unfold deviceFsf
  dsimp only
  split
  · exact skipCalls_unused h
  · exact endMotion_unused (skipCalls_unused h)
  all_goals exact skipCalls_sense_unused h usedSense_equipmentCheck

theorem WorkRow.device_unused (row : WorkRow cmd start device) (h : UnusedBitsClear s.ctx) :
    UnusedBitsClear (device s).ctx := by
  cases row
  case wr => exact deviceWr_unused h
  case rd | rdb => exact deviceRead_unused h
  case sns => exact deviceSns_unused h
  case erg => exact endMotion_unused h
  case wtm => exact deviceWtm_unused h
  case bsb => exact deviceBsb_unused h
  case bsf => exact deviceBsf_unused h
  case fsb => exact deviceFsb_unused h
  case fsf => exact deviceFsf_unused h

theorem operate_unused (hd : ∀ v : State, UnusedBitsClear v.ctx → UnusedBitsClear (device v).ctx)
    (h : UnusedBitsClear s.ctx) : UnusedBitsClear (operate o device s).ctx := by
  unfold operate
  dsimp only
  split
  · exact h
  · exact hd _ h

/-! ## The commands -/

theorem presentPending_unused (h : UnusedBitsClear c) : UnusedBitsClear (presentPending cmd w c) := by
  have hbusy : UsedStatus (if cmd = 0x00 ∧ parityOK w then 0x00 else BUSY) := .ite usedStatus_zero usedStatus_busy
  have hcheck : UsedStatus (if hasBit c.pendingUnit c.currentUnit then UC else 0x00) :=
    .ite usedStatus_unitCheck usedStatus_zero
  exact h.writeStatus (UsedStatus.or (UsedStatus.or usedStatus_deviceEnd hbusy) hcheck) rfl

theorem reject_unused (h : UnusedBitsClear c) (hm : UsedSense m) : UnusedBitsClear (reject m c) :=
  (h.senseCurrent hm).writeStatus (usedStatus_ends.or usedStatus_unitCheck) rfl

/-- Every row of the capture table composes a status of bits in use (R170 to R183). -/
theorem captureTable_unused (h : UnusedBitsClear c) (cmd : Byte) (w : BusWord) (dc : DevCond) :
    UnusedBitsClear (captureTable cmd w dc c) := by
  unfold captureTable
  split
  · exact presentPending_unused h
  split
  · exact reject_unused h usedSense_busCheck
  iterate 2
    split
    · exact reject_unused h usedSense_commandReject
  split
  · exact reject_unused h usedSense_interventionRequired
  iterate 2
    split
    · exact reject_unused h usedSense_commandReject
  split
  · exact h.writeStatus usedStatus_zero rfl
  split
  · exact h.writeStatus usedStatus_ends rfl
  split
  · exact h.writeStatus usedStatus_channelEnd rfl
  · exact h.writeStatus usedStatus_zero rfl

theorem capture_unused (h : UnusedBitsClear s.ctx) (cmd : Byte) : UnusedBitsClear (capture cmd s).ctx :=
  captureTable_unused (c := clearedCtx s.ctx) h cmd s.busOut s.nextCond

theorem concludedCommand_unused (h : UnusedBitsClear s.ctx) (cmd : Byte) :
    UnusedBitsClear (concludedCommand cmd s).ctx := by
  unfold concludedCommand
  split
  · split
    · exact capture_unused h cmd
    · exact h
  · split
    · split
      · exact endAccepted_unused h
      · exact h
    · exact h
  · exact operate_unused (fun _ hv => hv) h
  · exact h

theorem WorkRow.command_unused (row : WorkRow cmd start device) (h : UnusedBitsClear s.ctx) :
    UnusedBitsClear (workCommand cmd start device s).ctx := by
  unfold workCommand
  split
  · split
    · exact capture_unused h cmd
    · exact h
  · split
    · split
      · exact endAccepted_unused h
      · exact row.start_unused (beginWork_unused h)
    · exact h
  · exact operate_unused (fun _ => row.device_unused) h
  · exact h

/-! ## The handshake -/

theorem commandOut_unused (h : UnusedBitsClear s.ctx) : UnusedBitsClear (commandOut s).ctx := by
  unfold commandOut
  split
  case h_1 => exact capture_unused h _
  all_goals exact h

theorem usedStatus_readyStatus (c : Ctx) : UsedStatus (readyStatus c) :=
  .or usedStatus_deviceEnd (.ite usedStatus_unitCheck usedStatus_zero)

theorem commandDrop_unused (h : UnusedBitsClear c) : UnusedBitsClear (commandDrop c) := by
  unfold commandDrop
  split
  case h_5 => exact h.writeStatus (usedStatus_readyStatus c) rfl
  all_goals exact h

theorem captureByte_unused (h : UnusedBitsClear c) : UnusedBitsClear (captureByte w c) := by
  unfold captureByte
  split
  · exact h
  · exact UnusedBitsClear.senseCurrent (c := { c with dataByte := busByte w, dataReady := true }) h usedSense_busCheck

theorem serviceOut_unused (h : UnusedBitsClear c) (sup : Bool) (w : BusWord) :
    UnusedBitsClear (serviceOut sup w c) := by
  unfold serviceOut
  split
  case h_5 => exact captureByte_unused h
  all_goals exact h

theorem stackStatus_unused (h : UnusedBitsClear c) : UnusedBitsClear (stackStatus c) := by
  unfold stackStatus
  split
  case h_1 => exact h.writeStatus (UsedStatus.ite usedStatus_zero h.1) rfl
  all_goals exact h

theorem usedStatus_stopStatus (cmd : Byte) : UsedStatus (stopStatus cmd) :=
  .ite usedStatus_ends (.ite usedStatus_channelEnd usedStatus_zero)

theorem stopTransfer_unused (h : UnusedBitsClear c) : UnusedBitsClear (stopTransfer c) := by
  unfold stopTransfer
  split
  · exact h.addStatus (usedStatus_stopStatus _)
  · exact h.addStatus usedStatus_ends
  · exact h

theorem byteDone_unused (h : UnusedBitsClear s.ctx) : UnusedBitsClear (byteDone o s).ctx := by
  unfold byteDone
  dsimp only
  split
  · exact enterDataEnd_unused h
  · exact h

theorem stackDrop_unused (h : UnusedBitsClear c) : UnusedBitsClear (stackDrop c) := by
  unfold stackDrop; split <;> exact h

theorem ackDrop_unused (h : UnusedBitsClear s.ctx) (o : OutTags) : UnusedBitsClear (ackDrop o s).ctx := by
  unfold ackDrop
  split
  · split
    · exact endAccepted_unused h
    · obtain he | ⟨start, device, row, he⟩ := startCurrent_row o s <;> rw [he]
      · exact h
      · exact row.start_unused (beginWork_unused h)
  · exact byteDone_unused h
  · exact byteDone_unused h
  · exact h.writeStatus usedStatus_zero rfl
  · exact endAccepted_unused h
  · split
    · exact stackDrop_unused h
    · exact h
  · exact h

/-! ## Reset and halt -/

theorem resetCtx_unused (c : Ctx) : UnusedBitsClear (resetCtx c) :=
  unusedBitsClear_iff.mpr ⟨usedStatus_zero, usedSenseBytes_zeroBytes _⟩

theorem haltTransfer_unused (h : UnusedBitsClear s.ctx) : UnusedBitsClear (haltTransfer s).ctx :=
  enterDataEnd_unused (h.addStatus (usedStatus_channelEnd.or (.ite usedStatus_zero usedStatus_deviceEnd)))

theorem haltByState_unused (h : UnusedBitsClear s.ctx) : UnusedBitsClear (haltByState o st ph s).ctx := by
  unfold haltByState
  cases st <;> dsimp only
  case select | command => exact h.writeStatus usedStatus_zero rfl
  case initStatus =>
    split
    · exact endAccepted_unused h
    · exact endData_unused h usedStatus_ends
  case operate | dataIn | dataOut | request => exact haltTransfer_unused h
  case ending =>
    split
    · exact h
    · split
      · exact endAccepted_unused h
      · exact h
  case ready =>
    split
    · exact h.writeStatus usedStatus_zero rfl
    · split
      · exact h.writeStatus usedStatus_zero rfl
      · exact h
  case stack => split <;> exact h
  case dataEnd | wait | idle => exact h

theorem halt_unused (h : UnusedBitsClear s.ctx) (o : OutTags) : UnusedBitsClear (halt o s).ctx := by
  unfold halt
  split
  · exact haltByState_unused h
  · exact h

/-! ## Selection and the cycles without an event: neither register is written -/

theorem selectByState_unused (h : UnusedBitsClear c) : UnusedBitsClear (selectByState u c) := by
  unfold selectByState
  cases c.state <;> dsimp only
  case idle | wait | ready => split <;> exact h
  all_goals exact h

theorem addressedSelection_unused (h : UnusedBitsClear s.ctx) : UnusedBitsClear (addressedSelection s).ctx := by
  unfold addressedSelection
  split
  · split
    · exact selectByState_unused h
    · exact h
  · exact h

theorem chainedAddress_unused (h : UnusedBitsClear s.ctx) : UnusedBitsClear (chainedAddress s).ctx := by
  unfold chainedAddress
  split
  · rw [State.mapCtx_ctx]
    split <;> exact h
  · exact h

theorem answerPoll_unused (h : UnusedBitsClear s.ctx) (sup : Bool) : UnusedBitsClear (answerPoll sup s).ctx := by
  unfold answerPoll
  split
  · split
    case h_2 | h_3 => rw [State.mapCtx_ctx]; split <;> exact h
    case h_4 =>
      split
      · exact h
      · split <;> exact h
    all_goals exact h
  · exact h

theorem endBusy_unused (h : UnusedBitsClear s.ctx) : UnusedBitsClear (endBusy s).ctx := by
  unfold endBusy; split <;> exact h

theorem restOrChained_unused (h : UnusedBitsClear c) : UnusedBitsClear (restOrChained o c) := by
  unfold restOrChained chainedWait restStep
  split
  · split
    · split <;> exact h
    · exact h
  · split
    · split <;> exact h
    · exact h

theorem gateRequest_unused (h : UnusedBitsClear c) : UnusedBitsClear (gateRequest o c) := by
  unfold gateRequest
  split
  · exact h
  · split <;> exact h

theorem quietStep_unused (h : UnusedBitsClear s.ctx) (o : OutTags) : UnusedBitsClear (quietStep o s).ctx := by
  unfold quietStep
  cases s.ctx.state <;> dsimp only
  case idle | wait | ready => exact restOrChained_unused h
  case operate =>
    split
    · obtain he | ⟨start, row⟩ := deviceOf_row s.ctx.currentCommand
      · exact operate_unused (fun _ hv => by rwa [he]) h
      · exact operate_unused (fun _ => row.device_unused) h
    · exact h
  case request => split <;> exact h
  case dataEnd | stack =>
    split
    · exact h
    · exact gateRequest_unused h
  all_goals exact h

/-! ## The step -/

/-- Whatever the instruction, the unused bits of the current context stay clear. -/
theorem Meaning.unused (hm : Meaning i s t) (h : UnusedBitsClear s.ctx) : UnusedBitsClear t.ctx := by
  cases hm with
  | concluded c => exact concludedCommand_unused h c
  | work row _ => exact row.command_unused h
  | reset => exact resetCtx_unused _
  | halted o => exact halt_unused h o
  | selected => exact addressedSelection_unused h
  | chained => exact chainedAddress_unused h
  | polled sup => exact answerPoll_unused h sup
  | abandoned _ _ => exact h
  | addressDropped _ _ => exact h
  | commandOut => exact commandOut_unused h
  | commandDropped => exact commandDrop_unused h
  | serviceOut sup => exact serviceOut_unused h sup _
  | stacked => exact stackStatus_unused h
  | stopped => exact stopTransfer_unused h
  | ackDropped o => exact ackDrop_unused h o
  | busyEnded => exact endBusy_unused h
  | quiet o => exact quietStep_unused h o
  | held => exact h

/-- The tick records at most an equipment check (R254). -/
theorem tickUnit_unused (h : UnusedBitsClear s.ctx) : UnusedBitsClear (tickUnit s u).ctx := by
  unfold tickUnit
  dsimp only
  split
  · split
    · split
      · exact h
      · exact h
      · exact h
      · exact UnusedBitsClear.senseSet h usedSense_equipmentCheck
    · exact h
  · exact h

theorem tick_unused (h : UnusedBitsClear s.ctx) : UnusedBitsClear (tick s).ctx :=
  tick_keeps (P := fun t => UnusedBitsClear t.ctx) h (fun _ _ ht => ht) fun _ _ _ ht => tickUnit_unused ht

/-- Settles O15: the tick and the instruction keep the bits of the current context, and touch no other controller. -/
theorem stepKeepsUnusedBits : Obligations.StepKeepsUnusedBits := by
  intro s t h hstep k hk
  obtain ⟨-, v, hexec, rfl⟩ := step_next hstep
  have hcur : UnusedBitsClear v.ctx := (exec_meaning hexec).unused (tick_unused (h _ (mem_controllers.mpr (.inl rfl))))
  have hframe : OnlyCurrent s v := (tick_frame s).trans (onlyOwnContext _ _ _ hexec)
  rw [advance_controllers] at hk
  obtain rfl | hk := mem_controllers.mp hk
  · exact hcur
  · rw [hframe.before, hframe.after] at hk
    exact h k (mem_controllers.mpr (.inr hk))

end Sys2Proof.Machine
end

section
/-! O8, O9: what a step runs. Every instruction has a next state; the tag event of the cycle, chosen by the stages of R113,
is the instruction wherever the fetched word is the out-tags. -/

namespace Sys2Proof.Machine

variable {s : State} {i : Instr}

/-- Every instruction has a next state: no meaning ends in a fault or a refusal (R310, R352). -/
theorem exec_next (i : Instr) (s : State) : ∃ t, exec i s = .next t := by
  cases i <;> exact ⟨_, rfl⟩

/-- A step in a legal configuration is the tick, one instruction, and the turn passing on (R113). -/
theorem step_of_exec {t : State} (hlegal : s.legal = true) (h : exec (tick s).current (tick s) = .next t) :
    step s = .next (advance t) := by
  rw [step, if_pos hlegal, h]

/-- Settles O8: the step runs the instruction that was decoded, which has a next state. -/
theorem stepRunsDecoded : Obligations.StepRunsDecoded := by
  intro s i hlegal _ hi
  obtain ⟨t, ht⟩ := exec_next i (tick s)
  have hcurrent : (tick s).current = i := hi
  exact ⟨t, ht, step_of_exec hlegal (hcurrent ▸ ht)⟩

/-- Where the fetched word is the out-tags, the instruction is the tag event (R113). -/
theorem current_of_tags (hf : s.fetch = .tags s.out.word) (h : decodeTags s.qual s.out = i) : s.current = i := by
  rw [State.current, hf, decode, OutTags.ofWord_word, h]

/-- In P_BUSY a controller that is not selected meets only the end of the busy sequence, or a hold (R113, R124). -/
theorem decodeTags_pBusy {q : Qual} {o : OutTags} (hopr : o.opr = true) (hs : q.selected = false)
    (hp : q.phase = .pBusy) :
    decodeTags q o =
      if o.sel = false then .ebusyendSel0 o.hld o.adr o.cmd o.srv o.sup
      else if o.adr = false then .ebusyendAdr0 o.sel o.hld o.cmd o.srv o.sup
      else .hold o :=
  decodeTags_phase_event (by simp [hp]) hopr (by simp [Qual.haltFirst, hs]) (by simp [decodePhase, hp])

/-- In P_BUSY no command acts, whatever the event (R124). -/
theorem fetch_pBusy (hopr : s.out.opr = true) (hs : s.ctx.selected = false) (hp : s.ctx.phase = .pBusy) :
    s.fetch = .tags s.out.word := by
  have hevent := decodeTags_pBusy (q := s.qual) hopr hs hp
  unfold State.fetch
  rw [hevent]
  cases s.out.sel <;> cases s.out.adr <;> simp [hp]

/-- A word on bus-out that is this controller's address qualifies ESEL (R97, R303). -/
theorem qual_addressed {u : Nat} (hparity : parityOK s.busOut = true)
    (hscan : scan s.registry (busByte s.busOut) = some (s.index, u)) : s.qual.addressed = true := by
  have hunit : s.addressedUnit = some u := (addressedUnit_iff s u).mpr ⟨hparity, hscan⟩
  simp [State.qual, hunit]

/-- Settles O9: each stage gives its event, and none of these events is a place where a command acts. -/
theorem stageOrder : Obligations.StageOrder := by
  intro s
  refine ⟨?reset, ?halt, ?busy, ?select⟩
  case reset =>
    intro hopr
    have hevent := decodeTags_reset (q := s.qual) hopr
    exact current_of_tags (by rw [State.fetch, hevent]) hevent
  case halt =>
    intro hopr hs hadr hsel
    have hevent := decodeTags_halt (q := s.qual) (o := s.out) hs (by simp [OutTags.isHalt, hopr, hadr, hsel])
    exact current_of_tags (by rw [State.fetch, hevent]) hevent
  case busy =>
    intro hopr hs hp
    exact current_of_tags (fetch_pBusy hopr hs hp) (decodeTags_pBusy (q := s.qual) hopr hs hp)
  case select =>
    intro u hs hp hfree hparity hscan hopr hsel hhld hadr hcmd hsrv
    have haddr := qual_addressed hparity hscan
    have hselects : selects s.qual s.out = true := by
      have hphase : (s.ctx.phase == .pNone || s.ctx.phase == .pReq) = true := by simpa using hp
      have hpattern : s.out.isSelect = true := by simp [OutTags.isSelect, *]
      simp only [selects, hpattern, haddr, Bool.true_and, Bool.and_true]
      simp only [State.qual, hs, hphase, hfree, Bool.not_false, Bool.and_self]
    have hevent := decodeTags_select hselects
    exact current_of_tags (by rw [State.fetch, hevent]) hevent

end Sys2Proof.Machine
end

section
/-! O11: one bus cycle. A step keeps the configuration and passes the turn on, so the steps of a cycle are counted by the
controllers that have not stepped yet (R110). -/

namespace Sys2Proof.Machine

variable {s t : State}

theorem OnlyCurrent.registry (h : OnlyCurrent s t) : t.registry = s.registry := by
  simp only [State.registry, State.controllers, List.map_append, List.map_cons, h.before, h.after, h.entry]

/-- The turn passes to the next controller within the cycle (R110). -/
theorem advance_of_after {k : Controller} {ks : List Controller} (h : s.after = k :: ks) :
    advance s = { s with before := s.before ++ [s.cur], cur := k, after := ks } := by
  rw [advance, h]

/-- After the last controller the first one's turn comes, in the next cycle (R110). -/
theorem advance_of_last (h : s.after = []) :
    (advance s).before = [] ∧ (advance s).env = s.env.nextCycle := by
  cases hb : s.before <;> simp [advance, h, hb]

theorem State.legal_congr (hp : t.params = s.params) (hr : t.registry = s.registry) : t.legal = s.legal := by
  rw [State.legal, State.legal, hp, hr]

/-- A step of a legal configuration, said of what a bus cycle is about: the configuration is kept, and the turn passes on
from a state that the tick and the instruction reached. -/
theorem step_of_legal (h : s.legal = true) :
    ∃ v, OnlyCurrent s v ∧ step s = .next (advance v) ∧
      (advance v).params = s.params ∧ (advance v).registry = s.registry := by
  obtain ⟨v, hv⟩ := exec_next (tick s).current (tick s)
  have hframe : OnlyCurrent s v := (tick_frame s).trans (onlyOwnContext _ _ _ hv)
  refine ⟨v, hframe, step_of_exec h hv, (advance_params v).trans hframe.params, ?_⟩
  rw [State.registry, advance_controllers]
  exact hframe.registry

theorem run_succ {n : Nat} (h : step s = .next t) :
    Host.Core.run Sys2Proof.core (n + 1) s = Host.Core.run Sys2Proof.core n t := by
  have hcore : Sys2Proof.core.step s = .next t := h
  simp only [Host.Core.run, hcore]

/-- The rest of a cycle: the controllers that have not stepped yet, one step each. -/
theorem run_to_nextCycle (s : State) (h : s.legal = true) :
    ∃ t : State, Host.Core.run Sys2Proof.core (s.after.length + 1) s = .next t ∧
      t.before = [] ∧ t.registry = s.registry ∧ t.params = s.params ∧
      t.env.cycle = s.env.cycle + 1 ∧ t.env.lines = s.env.lines.tail := by
  obtain ⟨v, hframe, hstep, hparams, hregistry⟩ := step_of_legal h
  rw [run_succ hstep]
  induction ha : s.after generalizing s v with
  | nil =>
    obtain ⟨hbefore, henv⟩ := advance_of_last (hframe.after.trans ha)
    refine ⟨advance v, rfl, hbefore, hregistry, hparams, ?_, ?_⟩
    · rw [henv, Env.nextCycle, hframe.cycle]
    · rw [henv, Env.nextCycle, hframe.lines]
  | cons k ks ih =>
    have hturn := advance_of_after (hframe.after.trans ha)
    have hafter : (advance v).after = ks := by rw [hturn]
    have hcycle : (advance v).env.cycle = s.env.cycle := by rw [hturn]; exact hframe.cycle
    have hlines : (advance v).env.lines = s.env.lines := by rw [hturn]; exact hframe.lines
    have hlegal : (advance v).legal = true := (State.legal_congr hparams hregistry).trans h
    obtain ⟨w, hw, hstep', hparams', hregistry'⟩ := step_of_legal hlegal
    rw [List.length_cons, run_succ hstep', ← hcycle, ← hlines, ← hparams, ← hregistry]
    exact ih (advance v) hlegal w hw hstep' hparams' hregistry' hafter

/-- Settles O11: at the start of a cycle every controller is still to step. -/
theorem busCycle : Obligations.BusCycle := by
  intro s hlegal hbefore
  have hcount : s.nctrl = s.after.length + 1 := by simp [State.nctrl, State.controllers, hbefore]
  rw [hcount]
  exact run_to_nextCycle s hlegal

end Sys2Proof.Machine
end

section
/-! O20: the outputs of a controller, phase by phase (R115). -/

namespace Sys2Proof.Machine

/-- The in-tags as the statement has them: one phase each, and two for Status-In. -/
theorem drive_eq (c : Ctx) :
    drive c = ⟨c.selected, decide (c.phase = .pAddrIn), decide (c.phase = .pStatus ∨ c.phase = .pBusy),
      decide (c.phase = .pService), decide (c.phase = .pReq)⟩ := by
  simp only [drive, Bool.decide_or]
  rfl

/-- Settles O20: a split over the phases for the bus-in word. -/
theorem outputs : Obligations.Outputs := by
  intro c
  refine ⟨drive_eq c, ?_⟩
  cases hp : c.phase <;> simp [busDrive, hp, BUSY]

end Sys2Proof.Machine
end

section
/-! O44, O45: halt-in-flight (R140 to R149). A selected controller is released first; its state and phase before the halt
then say what becomes of the operation. -/

namespace Sys2Proof.Machine

variable {s t : State} {hld cmd srv sup : Bool}

/-- The lines of EHALT (R99). -/
abbrev haltTags (hld cmd srv sup : Bool) : OutTags := ⟨true, false, hld, true, cmd, srv, sup⟩

/-- EHALT of a selected controller: released, then by the state and the phase before the halt (R140). -/
theorem exec_ehalt_selected {st : CState} {ph : Phase} (h : s.ctx.selected = true) (hs : s.ctx.state = st)
    (hp : s.ctx.phase = ph) :
    exec (.ehalt hld cmd srv sup) s =
      .next (haltByState (haltTags hld cmd srv sup) st ph (s.setCtx (haltCommon s.ctx))) := by
  subst hs hp
  exact congrArg Host.Outcome.next (if_pos h)

/-- EHALT does not reach a controller that is not selected (R148, R149). -/
theorem exec_ehalt_unselected (h : s.ctx.selected = false) : exec (.ehalt hld cmd srv sup) s = .next s :=
  congrArg Host.Outcome.next (if_neg (by simp [h]))

/-- After EHALT the controller is not selected, whether it was reached or not (R140, R148). -/
theorem halt_selected (o : OutTags) (s : State) : (halt o s).ctx.selected = false := by
  unfold halt
  split
  · exact haltByState_selected _ _ _ rfl
  · next h => exact Bool.eq_false_of_not_eq_true h

/-- An accepted status is concluded without `stay`, since Select-Out is down in EHALT (R144). -/
theorem endAccepted_haltTags (s : State) :
    endAccepted (haltTags hld cmd srv sup) s = s.setCtx (concludedCtx s.params.dBg false s.ctx) :=
  endAccepted_eq _ s

/-- A running command ends with channel-end, and with device-end unless a record is open (R143). -/
theorem haltTransfer_eq (s : State) :
    haltTransfer s = enterDataEnd (s.setCtx
      { s.ctx with
        dataReady := false, dataEnd := true
        status := s.ctx.status ||| (if s.ctx.recOpen then 0x08 else 0x0C) }) := by
  unfold haltTransfer
  cases h : s.ctx.recOpen <;> simp [State.mapCtx_eq, addStatus, h, CE, DE]

/-- Settles O44: one branch of `haltByState` for each clause. -/
theorem halt_holds : Obligations.Halt := by
  intro s hld cmd srv sup hsel
  have released {st : CState} {ph : Phase} {t : State} (hs : s.ctx.state = st) (hp : s.ctx.phase = ph)
      (h : haltByState (haltTags hld cmd srv sup) st ph (s.setCtx (haltCommon s.ctx)) = t) :
      exec (.ehalt hld cmd srv sup) s = .next t := h ▸ exec_ehalt_selected hsel hs hp
  refine ⟨?before, ?accepted, ?branch, ?running, ?dataEnd, ?presented, ?acknowledged, ?wait, ?ready, ?delivered,
    ?stacked, ?empty⟩
  case before => rintro (hs | hs) <;> exact released hs rfl rfl
  case accepted => exact fun hs hd => released hs rfl ((if_pos hd).trans (endAccepted_haltTags _))
  case branch => exact fun hs hd => released hs rfl (if_neg (by simp [haltCommon, hd]))
  case running =>
    intro hs
    simp only [List.mem_cons, List.not_mem_nil, or_false] at hs
    obtain hs | hs | hs | hs := hs <;> exact released hs rfl (haltTransfer_eq _)
  case dataEnd => exact fun hs => released hs rfl rfl
  case presented => exact fun hs hp => released hs hp rfl
  case acknowledged => exact fun hs hp => released hs hp (endAccepted_haltTags _)
  case wait => exact fun hs => released hs rfl rfl
  case ready =>
    intro hs hp
    simp only [List.mem_cons, List.not_mem_nil, or_false] at hp
    obtain hp | hp | hp := hp <;> exact released hs hp rfl
  case delivered => exact fun hs hp => released hs hp rfl
  case stacked => exact fun hs hstatus => released hs rfl (if_neg hstatus)
  case empty => exact fun hs hstatus => released hs rfl (if_pos hstatus)

/-- Settles O45: a halt leaves the controller unselected, and an unselected controller is not reached. -/
theorem haltReach : Obligations.HaltReach := by
  intro s hld cmd srv sup
  refine ⟨exec_ehalt_unselected, fun t h => ?_⟩
  injection h with h
  exact exec_ehalt_unselected (h ▸ halt_selected _ s)

end Sys2Proof.Machine
end

section
/-! O46, O47, O50, O51: selection and its continuation (R121 to R128). -/

namespace Sys2Proof.Machine

variable {s : State} {i : Instr} {u : Nat} {sup : Bool}

/-! ## ESEL -/

/-- A fully qualified selection is answered by the state (R121 to R123). -/
theorem exec_esel_qualified (hs : s.ctx.selected = false) (hp : s.ctx.phase = .pNone ∨ s.ctx.phase = .pReq)
    (hfree : s.busFree = true) (hu : s.addressedUnit = some u) :
    exec (.esel sup) s = .next (s.setCtx (selectByState u s.ctx)) := by
  have hphase : (s.ctx.phase == .pNone || s.ctx.phase == .pReq) = true := by simpa using hp
  have hsel : addressedSelection s = s.setCtx (selectByState u s.ctx) := by
    simp only [addressedSelection, hs, hphase, hfree, hu, Bool.not_false, Bool.and_self, if_true, State.mapCtx_eq]
  exact congrArg _ hsel

/-- At rest the sub-unit is selected, or answered busy (R121, R122). -/
theorem selectByState_rest {c : Ctx} (h : c.state ∈ [CState.idle, .wait, .ready]) :
    selectByState u c = if hasBit c.busyFlags u then toPhase .pBusy c else selectUnit u c := by
  simp only [List.mem_cons, List.not_mem_nil, or_false] at h
  obtain h | h | h := h <;> rw [selectByState, h]

/-- In the course of an operation that lost the bus the selection is answered busy (R123). -/
theorem selectByState_operation {c : Ctx} (h : c.state ∈ [CState.operate, .request, .dataEnd, .stack]) :
    selectByState u c = toPhase .pBusy c := by
  simp only [List.mem_cons, List.not_mem_nil, or_false] at h
  obtain h | h | h | h := h <;> rw [selectByState, h]

/-- Settles O46: the qualified selection, by state and busy flag. -/
theorem addressedSelection_holds : Obligations.AddressedSelection := by
  intro s u sup hs hp hfree hparity hscan
  rw [exec_esel_qualified hs hp hfree ((addressedUnit_iff s u).mpr ⟨hparity, hscan⟩)]
  refine ⟨fun hrest hidle => ?_, fun hrest hbusy => ?_, fun hop => ?_⟩
  · rw [selectByState_rest hrest, hidle]; rfl
  · rw [selectByState_rest hrest, hbusy]; rfl
  · rw [selectByState_operation hop]; rfl

/-- An address that is bad, or is none of this controller's, addresses no sub-unit (R125). -/
theorem addressedUnit_eq_none
    (h : parityOK s.busOut = false ∨ ∀ u, scan s.registry (busByte s.busOut) ≠ some (s.index, u)) :
    s.addressedUnit = none := by
  refine Option.eq_none_iff_forall_ne_some.mpr fun u hu => ?_
  obtain ⟨hparity, hscan⟩ := (addressedUnit_iff s u).mp hu
  obtain h | h := h
  · exact Bool.false_ne_true (h.symm.trans hparity)
  · exact h u hscan

/-- Settles O47: each ground fails one part of the qualifier. -/
theorem unqualifiedSelection : Obligations.UnqualifiedSelection := by
  intro s sup h
  suffices hkeep : addressedSelection s = s from congrArg _ hkeep
  obtain hs | ⟨hp, hp'⟩ | hfree | haddr := h
  · simp [addressedSelection, hs]
  · exact addressedSelection_outOfPhase hp hp'
  · simp [addressedSelection, hfree]
  · simp [addressedSelection, addressedUnit_eq_none haddr]

/-! ## EADROP, EABANDON, EBUSYEND -/

/-- Settles O50: each event in the state and phase of its rule. -/
theorem selectionSteps : Obligations.SelectionSteps := by
  intro s
  refine ⟨fun hs hp => ⟨?drop, ?abandon⟩, fun hp => ⟨?sel0, ?adr0⟩⟩
  case drop => exact fun _ _ _ _ _ => congrArg _ (if_pos ⟨hs, hp⟩)
  case abandon => exact fun _ _ _ _ => congrArg _ (if_pos ⟨hs, hp⟩)
  case sel0 => exact fun _ _ _ _ _ => congrArg _ (if_pos hp)
  case adr0 => exact fun _ _ _ _ _ => congrArg _ (if_pos hp)

/-! ## ECMD -/

/-- Every command whose byte is on bus-out is captured (R128, R170). -/
theorem exec_capture {c : Byte} (h : byteOfInstr i = some c) (hat : AtCapture s) :
    exec i s = .next (capture c s) := by
  cases i
  case tio | ctl | illegal | rew | run => cases h; exact congrArg _ (concludedCommand_capture hat)
  case wr | rd | rdb | sns | erg | wtm | bsb | bsf | fsb | fsf => cases h; exact congrArg _ (workCommand_capture hat)
  all_goals cases h

/-- Settles O51: the event and the command on bus-out are the same capture; after a poll only the phase moves. -/
theorem commandOut_holds : Obligations.CommandOut := by
  intro s sel hld adr sup hp
  refine ⟨fun hs hout => ?_, fun hpolled => ?_⟩
  · refine ⟨capture (busByte s.busOut) s, ?_, exec_capture (byteOfInstr_instrOfByte _) ⟨hs, hp, hout⟩, rfl, rfl⟩
    have hcapture : commandOut s = capture (busByte s.busOut) s := by rw [commandOut, hs, hp]
    exact congrArg _ hcapture
  · suffices hproceed : commandOut s = s.mapCtx (toPhase .pCmdWait) from congrArg _ hproceed
    simp only [List.mem_cons, List.not_mem_nil, or_false] at hpolled
    obtain hs | hs | hs | hs := hpolled <;> rw [commandOut, hs, hp]

end Sys2Proof.Machine
end

section
/-! O58: a cycle without an event (R117, R132, R133, R200, R280, R289): what each state's own rule does, and the hold in
every phase of a handshake. -/

namespace Sys2Proof.Machine

variable {s : State} {c : Ctx} {o : OutTags} {cmd : Byte}

/-- Rest is READY just when a device-end is owed (R279). -/
theorem restState_eq_ready : restState c = .ready ↔ c.readyFlags ≠ 0 := by
  unfold restState
  split_ifs <;> simp_all

/-- Re-evaluation at rest, with the request line of READY, in one update (R257, R280). -/
theorem restStep_eq (o : OutTags) (c : Ctx) :
    restStep o c =
      { c with
        state := restState c
        phase := if c.readyFlags ≠ 0 then (if o.sup then .pNone else .pReq) else c.phase } := by
  by_cases h : c.readyFlags ≠ 0
  · rw [restStep, if_pos (restState_eq_ready.mpr h), if_pos h, restState_eq_ready.mpr h]
  · rw [restStep, if_neg (mt restState_eq_ready.mp h), if_neg h]
    rfl

/-- The request line of a waiting status follows Suppress-Out (R133). -/
theorem gateRequest_eq (h : c.phase = .pNone ∨ c.phase = .pReq) (o : OutTags) :
    gateRequest o c = { c with phase := if o.sup then .pNone else .pReq } := by
  cases c
  dsimp only at h
  obtain rfl | rfl := h <;> cases hsup : o.sup <;> simp [gateRequest, hsup, toPhase]

theorem gateRequest_handshake (h : c.phase ≠ .pNone) (h' : c.phase ≠ .pReq) : gateRequest o c = c := by
  rw [gateRequest, if_neg fun hc => h hc.1, if_neg fun hc => h' hc.1]

theorem restOrChained_handshake (h : c.phase ≠ .pNone) (h' : c.phase ≠ .pReq) : restOrChained o c = c := by
  unfold restOrChained
  split
  · exact if_neg fun hc => h hc.2.2
  · exact if_neg fun hc => hc.elim h h'

/-- The hold of R117: outside P_NONE and P_REQ a cycle without an event changes nothing. -/
theorem quietStep_handshake (h : s.ctx.phase ≠ .pNone) (h' : s.ctx.phase ≠ .pReq) : quietStep o s = s := by
  have hrest : s.mapCtx (restOrChained o) = s := State.mapCtx_of_fixed (restOrChained_handshake h h')
  have hgate : s.mapCtx (gateRequest o) = s := State.mapCtx_of_fixed (gateRequest_handshake h h')
  unfold quietStep
  cases s.ctx.state <;> dsimp only
  case idle | wait | ready => exact hrest
  case operate => exact if_neg h
  case request => exact if_neg fun hc => h hc.2
  case dataEnd | stack => split <;> [rfl; exact hgate]

/-- A phase that holds the bus is a phase of a handshake (R44 (i)). -/
theorem ne_of_holdsBus {p : Phase} (h : holdsBus p = true) : p ≠ .pNone ∧ p ≠ .pReq := by
  constructor <;> rintro rfl <;> exact Bool.false_ne_true h

/-- In the states whose rules all need an event, a cycle without one changes nothing (R117). -/
theorem quietStep_eventState
    (h : s.ctx.state ∈ [CState.select, .command, .initStatus, .dataIn, .dataOut, .ending]) : quietStep o s = s := by
  simp only [List.mem_cons, List.not_mem_nil, or_false] at h
  obtain h | h | h | h | h | h := h <;> rw [quietStep, h]

/-- At rest the state is evaluated again (R280). -/
theorem quietStep_rest (h : AtRest s) : quietStep o s = s.setCtx (restStep o s.ctx) := by
  obtain ⟨hsel, hp, hs⟩ := h
  have hrest : restOrChained o s.ctx = restStep o s.ctx := by simp [restOrChained, hsel, hp]
  rw [← hrest]
  obtain hs | hs | hs := hs <;> rw [quietStep, hs] <;> rfl

/-- A status that waits for the bus follows Suppress-Out (R133). -/
theorem quietStep_statusWaiting (h : s.ctx.state = .stack ∨ s.ctx.state = .dataEnd) (hsel : s.ctx.selected = false) :
    quietStep o s = s.setCtx (gateRequest o s.ctx) := by
  obtain h | h := h <;> rw [quietStep, h] <;> exact if_neg (by simp [hsel])

/-- Chained WAIT (R289, R290). -/
theorem quietStep_chained (hs : s.ctx.state = .wait) (hsel : s.ctx.selected = true) (hchain : s.ctx.chaining = true)
    (hp : s.ctx.phase = .pNone) : quietStep o s = s.setCtx (chainedWait o s.ctx) := by
  have hwait : restOrChained o s.ctx = chainedWait o s.ctx := by simp [restOrChained, hs, hsel, hchain, hp]
  rw [quietStep, hs, ← hwait]
  rfl

/-- The commands with work are the rows of R191 and R201. -/
theorem exists_row_of_isWorkCommand (h : isWorkCommand cmd = true) : ∃ start, WorkRow cmd start (deviceOf cmd) := by
  simp only [isWorkCommand, Bool.or_eq_true, beq_iff_eq, or_assoc] at h
  obtain rfl | rfl | rfl | rfl | rfl | rfl | rfl | rfl | rfl | rfl := h <;> exact ⟨_, by constructor⟩

/-- A command with work runs as its row says. -/
theorem WorkRow.exec_eq {start device : State → State} (row : WorkRow cmd start device) (s : State) :
    exec (instrOfByte cmd) s = .next (workCommand cmd start device s) := by
  cases row <;> rfl

/-- In OPERATE a cycle without an event is the current command's own (R200, R201). -/
theorem exec_hold_operate (hs : s.ctx.state = .operate) (hp : s.ctx.phase = .pNone)
    (hwork : isWorkCommand s.ctx.currentCommand = true) :
    exec (.hold s.out) s = exec (instrOfByte s.ctx.currentCommand) s := by
  obtain ⟨start, row⟩ := exists_row_of_isWorkCommand hwork
  have hquiet : quietStep s.out s = operate s.out (deviceOf s.ctx.currentCommand) s := by
    rw [quietStep, hs]
    exact if_pos hp
  rw [row.exec_eq, workCommand_device hs hp, ← hquiet]
  rfl

/-- Settles O58: the rule of each state without an event, and the hold. -/
theorem quietCycle : Obligations.QuietCycle := by
  intro s o
  refine ⟨?rest, ?request, ?waiting, ?chained, ?operate, ?hold⟩
  case rest =>
    intro hrest
    exact congrArg _ ((quietStep_rest hrest).trans (congrArg _ (restStep_eq o s.ctx)))
  case request =>
    intro hs hsel hp
    have hraise : quietStep o s = s.mapCtx (toPhase .pReq) := by
      rw [quietStep, hs]
      exact if_pos ⟨hsel, hp⟩
    exact congrArg _ hraise
  case waiting =>
    intro hs hsel hp
    rw [← gateRequest_eq hp]
    exact congrArg _ (quietStep_statusWaiting hs hsel)
  case chained =>
    intro hs hsel hchain hp
    refine (congrArg Host.Outcome.next (quietStep_chained hs hsel hchain hp)).trans ?_
    by_cases hstay : o.sel = true ∧ o.hld = true
    · rw [chainedWait, if_pos hstay, if_pos (by simpa [OutTags.stay] using hstay), State.setCtx_ctx_self]
    · rw [chainedWait, if_neg hstay, if_neg (by simpa [OutTags.stay] using hstay)]
      rfl
  case operate =>
    rintro hs hp hwork rfl
    exact exec_hold_operate hs hp hwork
  case hold =>
    intro h
    suffices hkeep : quietStep o s = s from congrArg _ hkeep
    obtain hs | hbusy | hbus | ⟨hs, hp⟩ := h
    · exact quietStep_eventState hs
    · exact quietStep_handshake (by simp [hbusy]) (by simp [hbusy])
    · obtain ⟨hnone, hreq⟩ := ne_of_holdsBus hbus
      exact quietStep_handshake hnone hreq
    · rw [quietStep, hs]
      exact if_neg (by simp [hp])

end Sys2Proof.Machine
end

section
/-! O19: odd parity (R162). The number of ones among the first lines gains one line at a time, and the XOR of the lines says
whether it is odd. -/

namespace Sys2Proof.Machine

/-- One more line makes the number of ones change its parity just when the line is up. -/
theorem countP_range_succ_odd (f : Nat → Bool) (n : Nat) :
    decide ((List.range (n + 1)).countP f % 2 = 1) = (f n ^^ decide ((List.range n).countP f % 2 = 1)) := by
  rw [List.range_succ, List.countP_append, List.countP_singleton]
  cases f n
  · simp
  · rcases Nat.mod_two_eq_zero_or_one ((List.range n).countP f) with h | h <;> simp [Nat.add_mod, h]

/-- The XOR of the bits of a byte says whether the number of ones is odd (R72 (f)). -/
theorem xorBits_eq_odd (b : Byte) : xorBits b = decide (((List.range 8).countP fun i => b.getLsbD i) % 2 = 1) := by
  simp only [countP_range_succ_odd, xorBits, Bool.xor_assoc, List.range_zero, List.countP_nil, Nat.zero_mod,
    Nat.zero_ne_one, decide_false, Bool.xor_false]

/-- The parity line is up for an even number of ones (R162). -/
theorem parity_iff_even (b : Byte) : parity b = true ↔ ((List.range 8).countP fun i => b.getLsbD i) % 2 = 0 := by
  rw [parity, xorBits_eq_odd]
  simp

/-- The bus word of a byte has its parity as bit 8 (R62, R162). -/
theorem busWord_toNat (b : Byte) : (busWord b).toNat = (parity b).toNat * 256 + b.toNat := by
  rw [busWord, BitVec.toNat_append, ← Nat.shiftLeft_add_eq_or_of_lt b.isLt, Nat.shiftLeft_eq, BitVec.toNat_ofBool]

/-- The bus word of a byte carries that byte (R62). -/
theorem busByte_busWord (b : Byte) : busByte (busWord b) = b := BitVec.extractLsb'_append_eq_right

/-- Bit 8 of the bus word of a byte is its parity (R62). -/
theorem busWord_parityBit (b : Byte) : (busWord b).getLsbD 8 = parity b := by
  rw [busWord, BitVec.getLsbD_append]
  simp

/-- Good parity is bit 8 agreeing with the byte (R162). -/
theorem parityOK_iff (w : BusWord) : parityOK w = true ↔ w.getLsbD 8 = parity (busByte w) := beq_iff_eq

/-- The byte of a bus word has the ones of the first eight lines (R62). -/
theorem countP_busByte (w : BusWord) :
    ((List.range 8).countP fun i => (busByte w).getLsbD i) = (List.range 8).countP fun i => w.getLsbD i :=
  List.countP_congr fun i hi => by simp [busByte, List.mem_range.1 hi]

/-- Good parity is an odd number of ones on the nine lines (R162). -/
theorem parityOK_iff_odd (w : BusWord) :
    parityOK w = true ↔ ((List.range 9).countP fun i => w.getLsbD i) % 2 = 1 := by
  have hnine : decide (((List.range 9).countP fun i => w.getLsbD i) % 2 = 1) =
      (w.getLsbD 8 ^^ xorBits (busByte w)) := by
    rw [countP_range_succ_odd, xorBits_eq_odd, countP_busByte]
  rw [parityOK_iff, ← decide_eq_true_iff (p := _ % 2 = 1), hnine, parity]
  cases w.getLsbD 8 <;> cases xorBits (busByte w) <;> decide

/-- Settles O19: the parity line, the bus word, and the check of nine lines. -/
theorem oddParity : Obligations.OddParity :=
  ⟨fun b => ⟨parity_iff_even b, busWord_toNat b, busByte_busWord b,
      (parityOK_iff _).2 (by rw [busWord_parityBit, busByte_busWord])⟩,
    fun w => ⟨parityOK_iff w, parityOK_iff_odd w⟩⟩

end Sys2Proof.Machine
end

section
/-! O23 to O29: command capture (R170 to R183). Whatever the command, its capture is the row of R170 that applies to its
byte (`exec_captured`); each statement names that row. -/

namespace Sys2Proof.Machine

variable {s : State} {i : Instr} {cmd mask : Byte}

/-! ## Capture by a row -/

/-- A command captured by a row that leaves the cleared transfer registers alone. -/
theorem exec_captured {e : Ctx} (hbyte : byteOfInstr i = some cmd) (hat : AtCapture s)
    (hrow : captureTable cmd s.busOut s.nextCond (clearedCtx s.ctx) = clearedCtx e) :
    exec i s = .next (captured s e) := by
  rw [exec_capture hbyte hat, capture_of_table hrow]

/-- A command captured by a row that rejects it (R179). -/
theorem exec_rejected (hbyte : byteOfInstr i = some cmd) (hat : AtCapture s)
    (hrow : captureTable cmd s.busOut s.nextCond (clearedCtx s.ctx) = reject mask (clearedCtx s.ctx)) :
    exec i s = .next (captured s (rejected s mask)) :=
  exec_captured hbyte hat hrow

/-- No earlier row takes a legal command without a device-end owed, bad parity or sense pending. -/
theorem Unobstructed.pastRow4 (h : Unobstructed s) (hlegal : legal cmd = true) :
    PastRow4 cmd s.busOut (clearedCtx s.ctx) := by
  obtain ⟨hready, hparity, hsense⟩ := h
  exact ⟨hready, hparity, hlegal, .inl hsense⟩

/-- The commands with work are legal and none of those that are concluded at capture (R180 to R183). -/
theorem isWorkCommand_spec : ∀ {c : Byte}, isWorkCommand c = true →
    legal c = true ∧ c ≠ 0x00 ∧ classOf c ≠ 3 ∧ ¬(c = 0x07 ∨ c = 0x0F) := by decide

/-- A command with work that no device condition stops is accepted (R183). -/
theorem exec_workAccepted (hbyte : byteOfInstr i = some cmd) (hat : AtCapture s) (hwork : isWorkCommand cmd = true)
    (hpast : PastRow4 cmd s.busOut (clearedCtx s.ctx)) (hadmits : Admits cmd s.nextCond) :
    exec i s = .next (captured s { s.ctx with status := 0x00, currentCommand := cmd, commandDone := false }) := by
  obtain ⟨-, htio, hctl, hrewind⟩ := isWorkCommand_spec hwork
  refine exec_captured hbyte hat ?_
  rw [captureTable_accepted hpast hadmits, if_neg htio, if_neg hctl, if_neg hrewind]
  rfl

/-! ## The rejections -/

/-- Settles O25: row 2 for bad parity, row 3 for an illegal byte. -/
theorem badCommandByteRejected : Obligations.BadCommandByteRejected := by
  intro s hat hready
  refine ⟨fun hparity i c hbyte => ?parity, fun hparity c hillegal => ?illegal⟩
  case parity => exact exec_rejected hbyte hat (captureTable_parity hready hparity)
  case illegal => exact exec_rejected rfl hat (captureTable_illegal hready hparity hillegal)

/-- Settles O26: row 1. -/
theorem pendingDeviceEnd : Obligations.PendingDeviceEnd := by
  intro s i c hbyte _ hat hready
  exact exec_captured hbyte hat (captureTable_deviceEnd hready)

/-- Settles O27: row 4. -/
theorem pendingSenseRejected : Obligations.PendingSenseRejected := by
  intro s i c hbyte hlegal hsns hat hready hparity hsense
  exact exec_rejected hbyte hat (captureTable_sensePending hready hparity hlegal hsense hsns)

/-- Settles O28: row 5, for the commands that a sub-unit that is not ready does not accept. -/
theorem notReadyRejected : Obligations.NotReadyRejected := by
  intro s hat hfree hdetached i hi
  have hrow {i : Instr} {c : Byte} (hbyte : byteOfInstr i = some c) (hlegal : legal c = true)
      (hnot : acceptedNotReady c = false) : exec i s = .next (captured s (rejected s INT_REQ)) :=
    exec_rejected hbyte hat (captureTable_notReady (hfree.pastRow4 hlegal) hdetached hnot)
  simp only [List.mem_cons, List.not_mem_nil, or_false] at hi
  obtain rfl | rfl | rfl | rfl | rfl | rfl | rfl | rfl | rfl | rfl | rfl := hi <;> exact hrow rfl rfl rfl

/-- Settles O29: row 6 for the commands that write, row 7 for those that move backward. -/
theorem mediumRejected : Obligations.MediumRejected := by
  intro s hat hfree hattached
  refine ⟨fun hreadOnly i hi => ?writing, fun hloadPoint i hi => ?backward⟩
  case writing =>
    have hrow {i : Instr} {c : Byte} (hbyte : byteOfInstr i = some c) (hlegal : legal c = true)
        (hwrites : writesMedium c = true) : exec i s = .next (captured s (rejected s CMD_REJECT)) :=
      exec_rejected hbyte hat (captureTable_readOnly (hfree.pastRow4 hlegal) hattached hreadOnly hwrites)
    simp only [List.mem_cons, List.not_mem_nil, or_false] at hi
    obtain rfl | rfl | rfl := hi <;> exact hrow rfl rfl rfl
  case backward =>
    have hrow {i : Instr} {c : Byte} (hbyte : byteOfInstr i = some c) (hlegal : legal c = true)
        (hreads : writesMedium c = false) (hmoves : movesBackward c = true) :
        exec i s = .next (captured s (rejected s CMD_REJECT)) :=
      exec_rejected hbyte hat (captureTable_loadPoint (hfree.pastRow4 hlegal) hattached hreads hloadPoint hmoves)
    simp only [List.mem_cons, List.not_mem_nil, or_false] at hi
    obtain rfl | rfl | rfl := hi <;> exact hrow rfl rfl rfl rfl

/-! ## The commands that are accepted -/

/-- The CONTROL class is legal, whatever the modifier, and no device condition stops it (R82, R176 to R178). -/
theorem controlClass_spec : ∀ {c : Byte}, classOf c = 3 →
    legal c = true ∧ c ≠ 0x00 ∧ acceptedNotReady c = true ∧ writesMedium c = false ∧ movesBackward c = false := by
  decide

/-- A CTL byte is of the CONTROL class (R83). -/
theorem classOf_ctl (m : BitVec 5) : classOf (m ++ (3 : BitVec 3)) = 3 := BitVec.extractLsb'_append_eq_right

/-- TIO is concluded with status 0x00 (R180). -/
theorem exec_tio_accepted (hat : AtCapture s) (hfree : Unobstructed s) :
    exec .tio s = .next (captured s { s.ctx with status := 0x00, currentCommand := 0x00, commandDone := true }) := by
  refine exec_captured rfl hat ?_
  rw [captureTable_accepted (hfree.pastRow4 rfl) ⟨.inr rfl, .inr rfl, .inr rfl⟩, if_pos rfl]
  rfl

/-- CTL is concluded with CE and DE (R181). -/
theorem exec_ctl_accepted (hat : AtCapture s) (hfree : Unobstructed s) (m : BitVec 5) :
    exec (.ctl m) s = .next (captured s
      { s.ctx with status := 0x0C, currentCommand := m ++ (3 : BitVec 3), commandDone := true }) := by
  obtain ⟨hlegal, htio, hnotReady, hwrites, hmoves⟩ := controlClass_spec (classOf_ctl m)
  refine exec_captured rfl hat ?_
  rw [captureTable_accepted (hfree.pastRow4 hlegal) ⟨.inr hnotReady, .inr hwrites, .inr hmoves⟩, if_neg htio,
    if_pos (classOf_ctl m)]
  rfl

/-- REW and RUN are concluded with CE on an attached sub-unit (R182). -/
theorem exec_rewind_accepted (hbyte : byteOfInstr i = some cmd) (hrewind : cmd = 0x07 ∨ cmd = 0x0F) (hat : AtCapture s)
    (hfree : Unobstructed s) (hattached : s.nextCond.attached = true) :
    exec i s = .next (captured s { s.ctx with status := 0x08, currentCommand := cmd, commandDone := true }) := by
  obtain ⟨hlegal, htio, hclass, hwrites, hmoves⟩ : legal cmd = true ∧ cmd ≠ 0x00 ∧ classOf cmd ≠ 3 ∧
      writesMedium cmd = false ∧ movesBackward cmd = false := by
    obtain rfl | rfl := hrewind <;> decide
  refine exec_captured hbyte hat ?_
  rw [captureTable_accepted (hfree.pastRow4 hlegal) ⟨.inl hattached, .inr hwrites, .inr hmoves⟩, if_neg htio,
    if_neg hclass, if_pos hrewind]
  rfl

/-- Settles O23: rows 8 to 10. -/
theorem concludedAtCapture : Obligations.ConcludedAtCapture := by
  intro s hat hfree
  exact ⟨exec_tio_accepted hat hfree, exec_ctl_accepted hat hfree, fun hattached =>
    ⟨exec_rewind_accepted rfl (.inl rfl) hat hfree hattached, exec_rewind_accepted rfl (.inr rfl) hat hfree hattached⟩⟩

/-- Settles O24: row 11, with what rows 4 to 7 ask of each command. -/
theorem workAccepted : Obligations.WorkAccepted := by
  intro s hat hready hparity
  refine ⟨?sns, fun hsense hattached => ?others⟩
  case sns =>
    exact exec_workAccepted rfl hat rfl ⟨hready, hparity, rfl, .inr rfl⟩ ⟨.inr rfl, .inr rfl, .inr rfl⟩
  case others =>
    have hrow {i : Instr} {c : Byte} (hbyte : byteOfInstr i = some c) (hwork : isWorkCommand c = true)
        (hwritable : s.nextCond.readOnly = false ∨ writesMedium c = false)
        (hbackward : s.nextCond.atLoadPoint = false ∨ movesBackward c = false) :
        exec i s = .next (captured s { s.ctx with status := 0x00, currentCommand := c, commandDone := false }) :=
      exec_workAccepted hbyte hat hwork ⟨hready, hparity, (isWorkCommand_spec hwork).1, .inl hsense⟩
        ⟨.inl hattached, hwritable, hbackward⟩
    refine ⟨hrow rfl rfl (.inr rfl) (.inr rfl), hrow rfl rfl (.inr rfl) (.inr rfl), hrow rfl rfl (.inr rfl) (.inr rfl),
      fun hwritable => ?writing, fun hbackward => ?backward⟩
    case writing =>
      have hwrite {i : Instr} {c : Byte} (hbyte : byteOfInstr i = some c) (hwork : isWorkCommand c = true)
          (hforward : movesBackward c = false) := hrow hbyte hwork (.inl hwritable) (.inr hforward)
      exact ⟨hwrite rfl rfl rfl, hwrite rfl rfl rfl, hwrite rfl rfl rfl⟩
    case backward =>
      have hback {i : Instr} {c : Byte} (hbyte : byteOfInstr i = some c) (hwork : isWorkCommand c = true)
          (hreads : writesMedium c = false) := hrow hbyte hwork (.inr hreads) (.inl hbackward)
      exact ⟨hback rfl rfl rfl, hback rfl rfl rfl, hback rfl rfl rfl⟩

end Sys2Proof.Machine
end

section
/-! O30 to O32: the start of a command's work (R190 to R192): the common part, then the start of the command's own row. -/

namespace Sys2Proof.Machine

variable {s : State} {c : Ctx} {cmd mask x : Byte} {call : CodecCall}

/-- When the initial status is over, a command with work begins as its row says (R190, R191). -/
theorem WorkRow.exec_start {start device : State → State} (row : WorkRow cmd start device) (hat : AtBranch s)
    (hpending : s.ctx.commandDone = false) : exec (instrOfByte cmd) s = .next (start (s.setCtx (working s))) := by
  rw [row.exec_eq, workCommand_start hat hpending, beginWork_eq]

/-- The first bits of a status that has none yet (R161, R190). -/
theorem addStatus_fresh (h : c.status = 0x00) : addStatus x c = { c with status := x } := by
  simp [addStatus, h]

/-- The end of an operation whose status has no bit yet (R190, R191). -/
theorem endData_fresh (h : s.ctx.status = 0x00) :
    endData x s = enterDataEnd (s.setCtx { s.ctx with dataEnd := true, status := x }) := by
  simp [endData_eq, h]

/-! ## WR -/

/-- The open record of a WR: DATA_IN with the bus, OPERATE without (R191, R192). -/
theorem openWrite_eq (t : State) :
    startWr.openWrite t = t.setCtx
      { t.ctx with
        recOpen := true
        state := if t.ctx.selected then .dataIn else .operate
        phase := if t.ctx.selected then .pService else t.ctx.phase } := by
  cases h : t.ctx.selected <;> simp [startWr.openWrite, State.mapCtx_eq, h]

theorem startWr_opened (h : s.nextAnswer.result = .ok ∨ s.nextAnswer.result = .markHit) :
    startWr s = startWr.openWrite (s.noteCall s.ctx.currentUnit .startWrite) := by
  obtain h | h := h <;> simp only [startWr, h]

theorem startWr_endOfMedium (h : s.nextAnswer.result = .endOfMedium) :
    startWr s = startWr.openWrite ((s.noteCall s.ctx.currentUnit .startWrite).mapCtx (addStatus UE)) := by
  simp only [startWr, h]

theorem startWr_error (h : s.nextAnswer.result = .error) :
    startWr s =
      endData (CE ||| DE) ((s.noteCall s.ctx.currentUnit .startWrite).mapCtx (senseCurrent EQUIP_CHECK)) := by
  simp only [startWr, h]

/-- Settles O30: the record is opened by every answer but `error`. -/
theorem writeStarts : Obligations.WriteStarts := by
  intro s hat hpending
  have hstart : exec .wr s = .next (startWr (s.setCtx (working s))) := WorkRow.wr.exec_start hat hpending
  refine ⟨fun hanswer => ?opened, fun hanswer => ?endOfMedium, fun hanswer => ?error⟩
  case opened =>
    rw [hstart, startWr_opened (s := s.setCtx (working s)) hanswer, openWrite_eq]
    rfl
  case endOfMedium =>
    rw [hstart, startWr_endOfMedium (s := s.setCtx (working s)) hanswer, State.mapCtx_eq, addStatus_fresh, openWrite_eq]
    · rfl
    · exact working_status (s := s)
  case error =>
    rw [hstart, startWr_error (s := s.setCtx (working s)) hanswer, endData_fresh]
    · rfl
    · exact working_status (s := s)

/-! ## RD and RDB -/

/-- The start of a read (R191), with the start call of its direction and the sense flag of `end-of-medium`. -/
def startReading (call : CodecCall) (mask : Byte) (s : State) : State :=
  let t := s.noteCall s.ctx.currentUnit call
  match s.nextAnswer.result with
  | .ok => openRead t
  | .markHit => endData (CE ||| DE ||| UE) t
  | .endOfMedium => endData (CE ||| DE) (t.mapCtx (senseCurrent mask))
  | .error => endData (CE ||| DE) (t.mapCtx (senseCurrent EQUIP_CHECK))

theorem startRd_eq (s : State) : startRd s = startReading .startForwardRead EQUIP_CHECK s := rfl

theorem startRdb_eq (s : State) : startRdb s = startReading .startBackwardRead CMD_REJECT s := rfl

theorem startReading_ok (h : s.nextAnswer.result = .ok) :
    startReading call mask s = openRead (s.noteCall s.ctx.currentUnit call) := by
  simp only [startReading, h]

theorem startReading_markHit (h : s.nextAnswer.result = .markHit) :
    startReading call mask s = endData (CE ||| DE ||| UE) (s.noteCall s.ctx.currentUnit call) := by
  simp only [startReading, h]

theorem startReading_endOfMedium (h : s.nextAnswer.result = .endOfMedium) :
    startReading call mask s =
      endData (CE ||| DE) ((s.noteCall s.ctx.currentUnit call).mapCtx (senseCurrent mask)) := by
  simp only [startReading, h]

theorem startReading_error (h : s.nextAnswer.result = .error) :
    startReading call mask s =
      endData (CE ||| DE) ((s.noteCall s.ctx.currentUnit call).mapCtx (senseCurrent EQUIP_CHECK)) := by
  simp only [startReading, h]

/-- Settles O31: RD and RDB differ in the start call and in the sense flag of `end-of-medium`. -/
theorem readStarts : Obligations.ReadStarts := by
  intro s hat hpending p hp
  have hstart : exec p.1 s = .next (startReading p.2.1 p.2.2 (s.setCtx (working s))) := by
    simp only [List.mem_cons, List.not_mem_nil, or_false] at hp
    obtain rfl | rfl := hp
    · rw [← startRd_eq]
      exact WorkRow.rd.exec_start hat hpending
    · rw [← startRdb_eq]
      exact WorkRow.rdb.exec_start hat hpending
  refine ⟨fun hanswer => ?ok, fun hanswer => ?markHit, fun hanswer => ?endOfMedium, fun hanswer => ?error⟩
  case ok =>
    rw [hstart, startReading_ok (s := s.setCtx (working s)) hanswer]
    rfl
  case markHit =>
    rw [hstart, startReading_markHit (s := s.setCtx (working s)) hanswer, endData_fresh]
    · rfl
    · exact working_status (s := s)
  case endOfMedium =>
    rw [hstart, startReading_endOfMedium (s := s.setCtx (working s)) hanswer, endData_fresh]
    · rfl
    · exact working_status (s := s)
  case error =>
    rw [hstart, startReading_error (s := s.setCtx (working s)) hanswer, endData_fresh]
    · rfl
    · exact working_status (s := s)

/-! ## SNS and motion -/

/-- A motion command with work loads its delay and makes no codec call (R191). -/
theorem WorkRow.exec_startMotion {device : State → State} (row : WorkRow cmd startMotion device) (hat : AtBranch s)
    (hpending : s.ctx.commandDone = false) :
    exec (instrOfByte cmd) s =
      .next (s.setCtx { working s with delayCounter := s.params.dMotion, state := .operate }) :=
  row.exec_start hat hpending

/-- Settles O32: the rows of SNS and of the six motion commands. -/
theorem senseAndMotionStart : Obligations.SenseAndMotionStart := by
  intro s hat hpending
  refine ⟨WorkRow.sns.exec_start hat hpending, fun i hi => ?motion⟩
  case motion =>
    simp only [List.mem_cons, List.not_mem_nil, or_false] at hi
    obtain rfl | rfl | rfl | rfl | rfl | rfl := hi
    · exact WorkRow.erg.exec_startMotion hat hpending
    · exact WorkRow.wtm.exec_startMotion hat hpending
    · exact WorkRow.bsb.exec_startMotion hat hpending
    · exact WorkRow.bsf.exec_startMotion hat hpending
    · exact WorkRow.fsb.exec_startMotion hat hpending
    · exact WorkRow.fsf.exec_startMotion hat hpending

end Sys2Proof.Machine
end

section
/-! O33 to O36: a step in OPERATE (R200): a loaded delay postpones the device step, and the device step is the one of the
command's own row (R202 to R212). -/

namespace Sys2Proof.Machine

variable {s : State} {c : Ctx} {cmd : Byte} {start device : State → State}

/-! ## OPERATE -/

/-- A command with work counts a loaded delay down (R200). -/
theorem WorkRow.exec_delay (row : WorkRow cmd start device) (hs : s.ctx.state = .operate) (hp : s.ctx.phase = .pNone)
    (hdelay : 0 < s.ctx.delayCounter) :
    exec (instrOfByte cmd) s = .next (s.setCtx { stepping s with delayCounter := s.ctx.delayCounter - 1 }) := by
  rw [row.exec_eq, workCommand_device hs hp, operate_delay device hdelay]

/-- With the delay run out a command with work makes its device step (R200, R201). -/
theorem WorkRow.exec_device (row : WorkRow cmd start device) (hat : AtDeviceStep s) :
    exec (instrOfByte cmd) s = .next (device (s.setCtx (stepping s))) := by
  obtain ⟨hs, hp, hdelay⟩ := hat
  rw [row.exec_eq, workCommand_device hs hp, operate_device device hdelay]

/-- Settles O33: the ten rows. -/
theorem delayCounts : Obligations.DelayCounts := by
  intro s hs hp hdelay i hi
  simp only [List.mem_cons, List.not_mem_nil, or_false] at hi
  obtain rfl | rfl | rfl | rfl | rfl | rfl | rfl | rfl | rfl | rfl := hi
  · exact WorkRow.wr.exec_delay hs hp hdelay
  · exact WorkRow.rd.exec_delay hs hp hdelay
  · exact WorkRow.rdb.exec_delay hs hp hdelay
  · exact WorkRow.sns.exec_delay hs hp hdelay
  · exact WorkRow.erg.exec_delay hs hp hdelay
  · exact WorkRow.wtm.exec_delay hs hp hdelay
  · exact WorkRow.bsb.exec_delay hs hp hdelay
  · exact WorkRow.bsf.exec_delay hs hp hdelay
  · exact WorkRow.fsb.exec_delay hs hp hdelay
  · exact WorkRow.fsf.exec_delay hs hp hdelay

/-! ## Data service -/

/-- Data service in state `st` when the bus is kept, REQUEST when not (R211). -/
def inService (st : CState) (keeps : Bool) (c : Ctx) : Ctx :=
  { c with state := if keeps then st else .request, phase := if keeps then .pService else .pNone }

/-- A byte is offered from P_NONE (R211). -/
theorem offerByte_setCtx (s : State) (h : c.phase = .pNone) :
    offerByte (s.setCtx c) = s.setCtx (inService .dataOut c.selected c) := by
  cases hsel : c.selected <;> simp [offerByte_eq, inService, hsel, h]

/-- A byte is asked for from P_NONE (R205, R211). -/
theorem requestByte_setCtx (s : State) (h : c.phase = .pNone) :
    requestByte (s.setCtx c) = s.setCtx (inService .dataIn c.selected c) := by
  cases hsel : c.selected <;> simp [requestByte_eq, inService, hsel, h]

/-- The context after an overrun draw (R212). -/
def afterDraw (late : Bool) (c : Ctx) : Ctx := if late then senseSet c.currentUnit OVERRUN c else c

theorem drawOverrun_setCtx (s : State) (c : Ctx) :
    drawOverrun (s.setCtx c) = s.useLate.setCtx (afterDraw s.nextLate c) :=
  drawOverrun_eq _

@[simp] theorem afterDraw_phase (late : Bool) (c : Ctx) : (afterDraw late c).phase = c.phase := by cases late <;> rfl

@[simp] theorem afterDraw_selected (late : Bool) (c : Ctx) : (afterDraw late c).selected = c.selected := by
  cases late <;> rfl

@[simp] theorem afterDraw_status (late : Bool) (c : Ctx) : (afterDraw late c).status = c.status := by
  cases late <;> rfl

@[simp] theorem afterDraw_currentUnit (late : Bool) (c : Ctx) : (afterDraw late c).currentUnit = c.currentUnit := by
  cases late <;> rfl

/-- The end of an operation that a codec error stops (R204, R207). -/
def stoppedByError (c : Ctx) : Ctx :=
  { senseSet c.currentUnit EQUIP_CHECK c with dataEnd := true, status := c.status ||| 0x0C }

theorem endData_equipCheck (s : State) :
    endData (CE ||| DE) (s.mapCtx (senseCurrent EQUIP_CHECK)) = enterDataEnd (s.setCtx (stoppedByError s.ctx)) := rfl

/-! ## RD and RDB -/

/-- A byte still held is offered (R202). -/
theorem deviceRead_held (hp : c.phase = .pNone) (h : c.dataReady = true) :
    deviceRead (s.setCtx c) = s.setCtx (inService .dataOut c.selected c) :=
  (if_pos h).trans (offerByte_setCtx s hp)

/-- The frame that was read is held, the overrun drawn, and the byte offered (R202, R212). -/
theorem deviceRead_ok (hp : c.phase = .pNone) (h : c.dataReady = false) (hr : s.nextAnswer.result = .ok) :
    deviceRead (s.setCtx c) =
      (s.noteCall c.currentUnit .readFrame).useLate.setCtx (inService .dataOut c.selected
        (afterDraw (s.noteCall c.currentUnit .readFrame).nextLate
          { c with dataByte := s.nextAnswer.byte, dataReady := true })) := by
  have hread : deviceRead (s.setCtx c) = offerByte (drawOverrun ((s.noteCall c.currentUnit .readFrame).setCtx
      { c with dataByte := s.nextAnswer.byte, dataReady := true })) := by
    simp only [deviceRead, State.setCtx_ctx, State.setCtx_nextAnswer, h, hr]
    rfl
  rw [hread, drawOverrun_setCtx, offerByte_setCtx, afterDraw_selected]
  exact (afterDraw_phase _ _).trans hp

/-- The end of the record (R203). -/
theorem deviceRead_markHit (h : c.dataReady = false) (hr : s.nextAnswer.result = .markHit) :
    deviceRead (s.setCtx c) = enterDataEnd ((s.noteCall c.currentUnit .readFrame).setCtx
      { c with dataEnd := true, status := c.status ||| 0x0C }) := by
  simp only [deviceRead, State.setCtx_ctx, State.setCtx_nextAnswer, h, hr]
  rfl

/-- No frame could be read (R204). -/
theorem deviceRead_failed (h : c.dataReady = false)
    (hr : s.nextAnswer.result = .endOfMedium ∨ s.nextAnswer.result = .error) :
    deviceRead (s.setCtx c) = enterDataEnd ((s.noteCall c.currentUnit .readFrame).setCtx (stoppedByError c)) := by
  obtain hr | hr := hr <;> simp only [deviceRead, State.setCtx_ctx, State.setCtx_nextAnswer, h, hr] <;> rfl

/-- Settles O34: the branches of `deviceRead`, which RD and RDB share. -/
theorem readStep : Obligations.ReadStep := by
  intro s hat i hi
  have hp : (stepping s).phase = .pNone := hat.2.1
  have hstep : exec i s = .next (deviceRead (s.setCtx (stepping s))) := by
    simp only [List.mem_cons, List.not_mem_nil, or_false] at hi
    obtain rfl | rfl := hi
    · exact WorkRow.rd.exec_device hat
    · exact WorkRow.rdb.exec_device hat
  refine ⟨fun hheld => ?held, fun hnone => ⟨fun hr => ?ok, fun hr => ?markHit, fun hr => ?failed⟩⟩
  case held =>
    rw [hstep, deviceRead_held hp hheld]
    rfl
  case ok =>
    rw [hstep, deviceRead_ok hp hnone hr]
    rfl
  case markHit =>
    rw [hstep, deviceRead_markHit (c := stepping s) hnone hr]
    rfl
  case failed =>
    rw [hstep, deviceRead_failed (c := stepping s) hnone hr]
    rfl

/-! ## WR -/

/-- With no byte captured the next one is asked for (R205). -/
theorem deviceWr_empty (hp : c.phase = .pNone) (h : c.dataReady = false) :
    deviceWr (s.setCtx c) = s.setCtx (inService .dataIn c.selected c) :=
  (if_neg (by simp [h])).trans (requestByte_setCtx s hp)

/-- The call that writes the captured byte (R205). -/
def writeCall (s : State) (c : Ctx) : State := s.noteCall c.currentUnit (.writeFrame c.dataByte)

/-- The context once the captured byte is written and the overrun drawn, whatever the codec answered (R205, R212). -/
def writtenCtx (s : State) (c : Ctx) : Ctx := afterDraw (writeCall s c).nextLate { c with dataReady := false }

theorem writtenCtx_phase : (writtenCtx s c).phase = c.phase := afterDraw_phase _ _

theorem writtenCtx_selected : (writtenCtx s c).selected = c.selected := afterDraw_selected _ _

theorem writtenCtx_status : (writtenCtx s c).status = c.status := afterDraw_status _ _

theorem writtenCtx_currentUnit : (writtenCtx s c).currentUnit = c.currentUnit := afterDraw_currentUnit _ _

theorem drawOverrun_written (s : State) (c : Ctx) :
    drawOverrun ((writeCall s c).setCtx { c with dataReady := false }) =
      (writeCall s c).useLate.setCtx (writtenCtx s c) :=
  drawOverrun_setCtx _ _

/-- The next byte is asked for (R205). -/
theorem deviceWr_written (hp : c.phase = .pNone) (h : c.dataReady = true)
    (hr : s.nextAnswer.result = .ok ∨ s.nextAnswer.result = .markHit) :
    deviceWr (s.setCtx c) =
      (writeCall s c).useLate.setCtx (inService .dataIn c.selected (writtenCtx s c)) := by
  have hwrite : deviceWr (s.setCtx c) =
      requestByte (drawOverrun ((writeCall s c).setCtx { c with dataReady := false })) := by
    obtain hr | hr := hr <;> simp only [deviceWr, State.setCtx_ctx, State.setCtx_nextAnswer, h, hr] <;> rfl
  rw [hwrite, drawOverrun_written, requestByte_setCtx _ (writtenCtx_phase.trans hp), writtenCtx_selected]

/-- The end of the medium is noted, and the next byte asked for (R206). -/
theorem deviceWr_endOfMedium (hp : c.phase = .pNone) (h : c.dataReady = true)
    (hr : s.nextAnswer.result = .endOfMedium) :
    deviceWr (s.setCtx c) = (writeCall s c).useLate.setCtx
      (inService .dataIn c.selected { writtenCtx s c with status := c.status ||| 0x01 }) := by
  have hwrite : deviceWr (s.setCtx c) = requestByte
      ((drawOverrun ((writeCall s c).setCtx { c with dataReady := false })).mapCtx (addStatus UE)) := by
    simp only [deviceWr, State.setCtx_ctx, State.setCtx_nextAnswer, h, hr]
    rfl
  rw [hwrite, drawOverrun_written, State.mapCtx_eq, State.setCtx_setCtx, State.setCtx_ctx, requestByte_setCtx,
    addStatus_selected, writtenCtx_selected, addStatus, writtenCtx_status]
  · rfl
  · exact writtenCtx_phase.trans hp

/-- The byte could not be written (R207). -/
theorem deviceWr_error (h : c.dataReady = true) (hr : s.nextAnswer.result = .error) :
    deviceWr (s.setCtx c) = enterDataEnd ((writeCall s c).useLate.setCtx (stoppedByError (writtenCtx s c))) := by
  have hwrite : deviceWr (s.setCtx c) = endData (CE ||| DE)
      ((drawOverrun ((writeCall s c).setCtx { c with dataReady := false })).mapCtx (senseCurrent EQUIP_CHECK)) := by
    simp only [deviceWr, State.setCtx_ctx, State.setCtx_nextAnswer, h, hr]
    rfl
  rw [hwrite, drawOverrun_written, endData_equipCheck, State.setCtx_setCtx, State.setCtx_ctx]

/-- Settles O35: the branches of `deviceWr`. -/
theorem writeStep : Obligations.WriteStep := by
  intro s hat
  have hp : (stepping s).phase = .pNone := hat.2.1
  have hstep : exec .wr s = .next (deviceWr (s.setCtx (stepping s))) := WorkRow.wr.exec_device hat
  refine ⟨fun hnone => ?empty, fun hheld => ⟨fun hr => ?written, fun hr => ?endOfMedium, fun hr => ?error⟩⟩
  case empty =>
    rw [hstep, deviceWr_empty hp hnone]
    rfl
  case written =>
    rw [hstep, deviceWr_written hp hheld hr]
    rfl
  case endOfMedium =>
    rw [hstep, deviceWr_endOfMedium hp hheld hr]
    rfl
  case error =>
    rw [hstep, deviceWr_error (c := stepping s) hheld hr, stoppedByError, writtenCtx_status, writtenCtx_currentUnit]
    rfl

/-! ## SNS -/

/-- A sense byte as it is stored: zero without sense pending for the sub-unit (R208). -/
def storedSense (c : Ctx) (i : Nat) : Byte :=
  if hasBit c.pendingUnit c.currentUnit then c.senseBytes.getD i 0x00 else 0x00

/-- Every sense byte but byte 1 is fetched as it is stored (R208). -/
theorem fetchSense_stored (hi : c.senseIndex ≠ 1) :
    fetchSense (s.setCtx c) = s.setCtx
      { c with dataByte := storedSense c c.senseIndex, senseIndex := c.senseIndex + 1, dataReady := true } := by
  have hbyte : senseOut c c.senseIndex 0x00 = storedSense c c.senseIndex := by
    rw [senseOut, if_neg hi]
    exact BitVec.or_zero
  simp only [fetchSense, State.setCtx_ctx, State.mapCtx_eq, hi, if_false, hbyte]
  rfl

/-- Byte 1 has the device detail of a fresh sample added (R208). -/
theorem fetchSense_detail (hi : c.senseIndex = 1) :
    fetchSense (s.setCtx c) = s.useCond.setCtx
      { c with
        dataByte := storedSense c c.senseIndex ||| detailByte s.params s.nextCond, senseIndex := 2
        dataReady := true } := by
  simp only [fetchSense, State.setCtx_ctx, State.mapCtx_eq, hi, if_true]
  rfl

/-- A byte still held is offered (R209). -/
theorem deviceSns_held (hp : c.phase = .pNone) (h : c.dataReady = true) :
    deviceSns (s.setCtx c) = s.setCtx (inService .dataOut c.selected c) :=
  (if_pos h).trans (offerByte_setCtx s hp)

/-- While sense bytes are left, the one at the cursor is fetched and offered (R209). -/
theorem deviceSns_next (h : c.dataReady = false) (hi : c.senseIndex < s.params.nsense) :
    deviceSns (s.setCtx c) = offerByte (fetchSense (s.setCtx c)) :=
  (if_neg (by simp [h])).trans (if_pos hi)

/-- All sense bytes are out (R210). -/
theorem deviceSns_end (h : c.dataReady = false) (hi : c.senseIndex = s.params.nsense) :
    deviceSns (s.setCtx c) = enterDataEnd (s.setCtx { c with dataEnd := true, status := c.status ||| 0x0C }) :=
  (if_neg (by simp [h])).trans (if_neg (by simp [hi]))

/-- Settles O36: a held byte, the byte at the cursor, and the end. -/
theorem senseStep : Obligations.SenseStep := by
  intro s hat
  have hp : (stepping s).phase = .pNone := hat.2.1
  have hstep : exec .sns s = .next (deviceSns (s.setCtx (stepping s))) := WorkRow.sns.exec_device hat
  refine ⟨fun hheld => ?held, fun hnone hlt hi => ?stored, fun hnone hlt hi => ?detail, fun hnone hi => ?ended⟩
  case held =>
    rw [hstep, deviceSns_held hp hheld]
    rfl
  case stored =>
    rw [hstep, deviceSns_next (c := stepping s) hnone hlt, fetchSense_stored (c := stepping s) hi, offerByte_setCtx]
    · rfl
    · exact hp
  case detail =>
    rw [hstep, deviceSns_next (c := stepping s) hnone hlt, fetchSense_detail (c := stepping s) hi, offerByte_setCtx]
    · rfl
    · exact hp
  case ended =>
    rw [hstep, deviceSns_end (c := stepping s) hnone hi]
    rfl

end Sys2Proof.Machine
end

section
/-! O40, O41: the ending status (R224 to R229). An open record is closed first; what is left is the same with and without
one. -/

namespace Sys2Proof.Machine

variable {s t : State} {c : Ctx}

/-- The registers that the end of the work writes before anything else (R224). -/
def workOver (c : Ctx) : Ctx := { c with commandDone := true, dataReady := false, delayCounter := 0 }

/-- `enterDataEnd` in its two parts: the record is closed (R225), and the status completed and presented (R226 to
R229). -/
theorem enterDataEnd_eq (s : State) :
    enterDataEnd s = (closeRecord (s.setCtx (workOver s.ctx))).mapCtx fun c =>
      presentEnding (withholdDeviceEnd s.params.dBg (addUnitCheck c)) := rfl

/-! ## The record: R225 -/

theorem closeRecord_closed (h : c.recOpen = false) : closeRecord (s.setCtx c) = s.setCtx c :=
  if_neg (by simp [h])

/-- The call that closes the record of the current sub-unit (R225). -/
def finishCall (s : State) (c : Ctx) : State := s.noteCall c.currentUnit .finishRecord

theorem closeRecord_error (h : c.recOpen = true) (hr : s.nextAnswer.result = .error) :
    closeRecord (s.setCtx c) =
      (finishCall s c).setCtx (senseSet c.currentUnit EQUIP_CHECK { c with recOpen := false }) := by
  simp only [closeRecord, State.setCtx_ctx, State.setCtx_nextAnswer, h, hr]
  rfl

/-- A WR that closes its record at the end of the medium has unit-exception (R225). -/
theorem closeRecord_writeAtEnd (h : c.recOpen = true) (hr : s.nextAnswer.result = .endOfMedium)
    (hc : c.currentCommand = 0x01) :
    closeRecord (s.setCtx c) =
      (finishCall s c).setCtx { c with recOpen := false, status := c.status ||| 0x01 } := by
  simp only [closeRecord, State.setCtx_ctx, State.setCtx_nextAnswer, h, hr, if_true]
  exact if_pos hc

theorem closeRecord_readAtEnd (h : c.recOpen = true) (hr : s.nextAnswer.result = .endOfMedium)
    (hc : c.currentCommand ≠ 0x01) :
    closeRecord (s.setCtx c) = (finishCall s c).setCtx { c with recOpen := false } := by
  simp only [closeRecord, State.setCtx_ctx, State.setCtx_nextAnswer, h, hr, if_true]
  exact if_neg hc

theorem closeRecord_ok (h : c.recOpen = true) (hr : s.nextAnswer.result = .ok ∨ s.nextAnswer.result = .markHit) :
    closeRecord (s.setCtx c) = (finishCall s c).setCtx { c with recOpen := false } := by
  obtain hr | hr := hr <;> simp only [closeRecord, State.setCtx_ctx, State.setCtx_nextAnswer, h, hr] <;> rfl

/-! ## The status: R226 to R229 -/

/-- Settles O40: with no record open the parts R226 to R229 are one update. -/
theorem dataEndEntered : Obligations.DataEndEntered := by
  intro s hrec
  have hclosed : closeRecord (s.setCtx (workOver s.ctx)) = s.setCtx (workOver s.ctx) := closeRecord_closed hrec
  rw [enterDataEnd_eq, hclosed, State.mapCtx_eq, addUnitCheck_eq, withholdDeviceEnd_eq, presentEnding_eq]
  rfl

/-- The end of an operation is decided by what closing the record leaves (R224). -/
theorem enterDataEnd_of_closeRecord (hrec : c.recOpen = false) (hp : t.params = s.params)
    (h : closeRecord (s.setCtx (workOver s.ctx)) = t.setCtx (workOver c)) :
    enterDataEnd s = enterDataEnd (t.setCtx c) := by
  have hclosed : closeRecord (t.setCtx (workOver c)) = t.setCtx (workOver c) := closeRecord_closed hrec
  rw [enterDataEnd_eq, enterDataEnd_eq, State.setCtx_setCtx, State.setCtx_ctx, State.setCtx_params, h, hclosed, hp]

/-- Settles O41: each answer of `finishRecord` leaves a context without an open record. -/
theorem recordClosed : Obligations.RecordClosed := by
  intro s
  refine ⟨fun hrec => ?none, fun hrec => ⟨fun hr => ?error, fun hr hc => ?writeAtEnd, fun hr hc => ?readAtEnd,
    fun hr => ?ok⟩⟩
  case none => rw [dataEndEntered s hrec, State.setCtx_env]
  case error => exact enterDataEnd_of_closeRecord rfl rfl (closeRecord_error hrec hr)
  case writeAtEnd => exact enterDataEnd_of_closeRecord rfl rfl (closeRecord_writeAtEnd hrec hr hc)
  case readAtEnd => exact enterDataEnd_of_closeRecord rfl rfl (closeRecord_readAtEnd hrec hr hc)
  case ok => exact enterDataEnd_of_closeRecord rfl rfl (closeRecord_ok hrec hr)

end Sys2Proof.Machine
end

section
/-! O54, O56, O57: the channel's answers in data service, and the drop of a response (R188, R214 to R221, R263, R283). -/

namespace Sys2Proof.Machine

variable {s : State} {c : Ctx} {o : OutTags} {sup : Bool} {w : BusWord} {cmd : Byte} {start device : State → State}

/-! ## EACCEPT -/

/-- A byte is captured in one update, with sense for bad parity (R219). -/
theorem captureByte_eq (w : BusWord) (c : Ctx) :
    captureByte w c =
      { (if parityOK w = true then c else senseSet c.currentUnit BUS_CHECK c) with
        dataByte := busByte w, dataReady := true, phase := .pServiceAck } := by
  unfold captureByte
  split <;> rfl

theorem serviceOut_dataOut (hs : c.state = .dataOut) (hp : c.phase = .pService) :
    serviceOut sup w c = { c with dataReady := false, phase := .pServiceAck } := by
  rw [serviceOut, hs, hp]

theorem serviceOut_dataIn (hs : c.state = .dataIn) (hp : c.phase = .pService) :
    serviceOut sup w c = captureByte w c := by
  rw [serviceOut, hs, hp]

/-- Settles O54: Service-Out in each direction. -/
theorem byteTransferred : Obligations.ByteTransferred := by
  intro s sel hld adr sup hp
  have haccept : exec (.eaccept sel hld adr sup) s = .next (s.setCtx (serviceOut sup s.busOut s.ctx)) := rfl
  rw [haccept]
  refine ⟨fun hs => ?dataOut, fun hs => ?dataIn⟩
  case dataOut => rw [serviceOut_dataOut hs hp]
  case dataIn => rw [serviceOut_dataIn hs hp, captureByte_eq]

/-! ## ESTOP -/

/-- The byte on offer is withdrawn (R215). -/
theorem stopTransfer_dataOut (hs : c.state = .dataOut) (hp : c.phase = .pService) :
    stopTransfer c =
      { c with
        dataReady := false, dataEnd := true, phase := .pServiceAck
        status := c.status ||| stopStatus c.currentCommand } := by
  rw [stopTransfer, hs, hp]
  rfl

/-- The channel has no further byte (R220). -/
theorem stopTransfer_dataIn (hs : c.state = .dataIn) (hp : c.phase = .pService) :
    stopTransfer c = { c with dataEnd := true, phase := .pServiceAck, status := c.status ||| 0x0C } := by
  rw [stopTransfer, hs, hp]
  rfl

/-- RD and RDB are stopped with channel-end alone (R215). -/
theorem stopStatus_read (h : cmd = 0x02 ∨ cmd = 0x0C) : stopStatus cmd = 0x08 := by
  obtain rfl | rfl := h <;> rfl

/-- Settles O56: the two directions, and in the first the two statuses. -/
theorem transferStopped : Obligations.TransferStopped := by
  intro s sel hld adr sup hp
  have hstop : exec (.estop sel hld adr sup) s = .next (s.setCtx (stopTransfer s.ctx)) := rfl
  rw [hstop]
  refine ⟨fun hs hc => ?read, fun hs hc => ?sense, fun hs => ?write⟩
  case read => rw [stopTransfer_dataOut hs hp, stopStatus_read hc]
  case sense =>
    have hboth : stopStatus s.ctx.currentCommand = 0x0C := hc ▸ rfl
    rw [stopTransfer_dataOut hs hp, hboth]
  case write => rw [stopTransfer_dataIn hs hp]

/-! ## EACKDROP -/

/-- The lines of EACKDROP (R104). -/
abbrev ackDropTags (sel hld adr sup : Bool) : OutTags := ⟨true, sel, hld, adr, false, false, sup⟩

/-- The start of the current command is that of its row (R191). -/
theorem WorkRow.startCurrent_eq (row : WorkRow cmd start device) (h : s.ctx.currentCommand = cmd) (o : OutTags) :
    startCurrent o s = start (beginWork o s) := by
  rw [startCurrent, h]
  cases row <;> rfl

/-- The drop after the initial status of a command with work is the start of that command (R188, R190). -/
theorem ackDrop_work (hs : s.ctx.state = .initStatus) (hp : s.ctx.phase = .pStatusAck)
    (hpending : s.ctx.commandDone = false) (hwork : isWorkCommand s.ctx.currentCommand = true)
    (hack : s.out.isAckDrop = true) :
    exec (instrOfByte s.ctx.currentCommand) s = .next (ackDrop s.out s) := by
  obtain ⟨start, row⟩ := exists_row_of_isWorkCommand hwork
  have hdrop : ackDrop s.out s = startCurrent s.out s := by
    rw [ackDrop, hs, hp]
    exact if_neg (by simp [hpending])
  rw [row.exec_eq, workCommand_start ⟨hs, hp, hack⟩ hpending, hdrop, row.startCurrent_eq rfl]

/-- The drop after a byte, in either direction (R216, R221). -/
theorem ackDrop_byte (hs : s.ctx.state = .dataOut ∨ s.ctx.state = .dataIn) (hp : s.ctx.phase = .pServiceAck) :
    ackDrop o s = byteDone o s := by
  obtain hs | hs := hs <;> rw [ackDrop, hs, hp]

/-- The drop after READY's delivery (R263). -/
theorem ackDrop_delivery (hs : s.ctx.state = .ready) (hp : s.ctx.phase = .pStatusAck) :
    ackDrop o s = s.setCtx (deliveryDone s.ctx) := by
  rw [ackDrop, hs, hp]
  rfl

/-- The drop after a stacked status (R283). -/
theorem ackDrop_stacked (hs : s.ctx.state = .stack) (hp : s.ctx.phase = .pStatusAck) (hsel : s.ctx.selected = true) :
    ackDrop o s = s.setCtx (stackDrop s.ctx) := by
  rw [ackDrop, hs, hp]
  exact if_pos hsel

/-- Settles O57: the drop in each acknowledge phase. -/
theorem ackDropped : Obligations.AckDropped := by
  intro s sel hld adr sup
  have hexec : exec (.eackdrop sel hld adr sup) s = .next (ackDrop (ackDropTags sel hld adr sup) s) := rfl
  rw [hexec]
  refine ⟨fun hs hp hpending hwork hout => ?work, fun hs hp => ?byte, fun hs hp => ?delivery,
    fun hs hp hsel => ?stacked⟩
  case work => rw [ackDrop_work hs hp hpending hwork (hout ▸ rfl), hout]
  case byte =>
    rw [ackDrop_byte hs hp, byteDone]
    split_ifs <;> rfl
  case delivery =>
    rw [ackDrop_delivery hs hp]
    rfl
  case stacked =>
    rw [ackDrop_stacked hs hp hsel, stackDrop]
    split_ifs <;> rfl

end Sys2Proof.Machine
end

section
/-! O37 to O39: the device steps of motion (R240, R243 to R249): ERG and WTM, the helper `skip`, and the four spacing
commands, which differ in the start call, in what a record and a tape mark mean, and in the sense flag of
`end-of-medium`. -/

namespace Sys2Proof.Machine

variable {s : State} {c : Ctx} {mask : Byte} {call : CodecCall} {passed marked : State → State}

/-! ## The end of a motion -/

theorem endMotion_setCtx (s : State) (c : Ctx) :
    endMotion (s.setCtx c) = enterDataEnd (s.setCtx { c with status := c.status ||| 0x0C }) := rfl

/-- A motion that ends with unit-exception (R244, R245, R247). -/
theorem endMotion_unitException (s : State) (c : Ctx) :
    endMotion ((s.setCtx c).mapCtx (addStatus UE)) =
      enterDataEnd (s.setCtx { c with status := c.status ||| 0x0D }) := by
  have hbits : c.status ||| UE ||| 0x0C = c.status ||| 0x0D := BitVec.or_assoc _ _ _
  rw [← hbits]
  rfl

/-- A motion that ends with a sense flag (R244 to R248). -/
theorem endMotion_sense (mask : Byte) (s : State) (c : Ctx) :
    endMotion ((s.setCtx c).mapCtx (senseCurrent mask)) =
      enterDataEnd (s.setCtx { senseSet c.currentUnit mask c with status := c.status ||| 0x0C }) := rfl

/-! ## ERG and WTM -/

/-- The call of WTM (R244). -/
abbrev markCall (s : State) (c : Ctx) : State := s.noteCall c.currentUnit .writeMark

theorem deviceWtm_ok (hr : s.nextAnswer.result = .ok ∨ s.nextAnswer.result = .markHit) :
    deviceWtm (s.setCtx c) = endMotion ((markCall s c).setCtx c) := by
  obtain hr | hr := hr <;> simp only [deviceWtm, State.setCtx_nextAnswer, hr] <;> rfl

theorem deviceWtm_endOfMedium (hr : s.nextAnswer.result = .endOfMedium) :
    deviceWtm (s.setCtx c) = endMotion (((markCall s c).setCtx c).mapCtx (addStatus UE)) := by
  simp only [deviceWtm, State.setCtx_nextAnswer, hr]
  rfl

theorem deviceWtm_error (hr : s.nextAnswer.result = .error) :
    deviceWtm (s.setCtx c) = endMotion (((markCall s c).setCtx c).mapCtx (senseCurrent EQUIP_CHECK)) := by
  simp only [deviceWtm, State.setCtx_nextAnswer, hr]
  rfl

/-- Settles O37: ERG ends at once, WTM by the answer of `writeMark`. -/
theorem eraseAndMarkStep : Obligations.EraseAndMarkStep := by
  intro s hat
  have hmark : exec .wtm s = .next (deviceWtm (s.setCtx (stepping s))) := WorkRow.wtm.exec_device hat
  refine ⟨WorkRow.erg.exec_device hat, fun hr => ?ok, fun hr => ?endOfMedium, fun hr => ?error⟩
  case ok =>
    rw [hmark, deviceWtm_ok hr, endMotion_setCtx]
    rfl
  case endOfMedium =>
    rw [hmark, deviceWtm_endOfMedium hr, endMotion_unitException]
    rfl
  case error =>
    rw [hmark, deviceWtm_error hr, endMotion_sense]
    rfl

/-! ## `skip` -/

theorem skipCalls_ok (hr : s.nextAnswer.result = .ok) :
    skipCalls call s = (s.noteCall s.ctx.currentUnit call).noteCall s.ctx.currentUnit .finishRecord := by
  simp only [skipCalls, hr]

/-- The answer of `finishRecord` counts only when it is `error` (R240). -/
theorem skipResult_ok (hr : s.nextAnswer.result = .ok) :
    skipResult call s =
      if (s.noteCall s.ctx.currentUnit call).nextAnswer.result = .error then .error else .ok := by
  simp only [skipResult, hr]
  cases (s.noteCall s.ctx.currentUnit call).nextAnswer.result <;> rfl

theorem skipCalls_notOk (hr : s.nextAnswer.result ≠ .ok) :
    skipCalls call s = s.noteCall s.ctx.currentUnit call := by
  unfold skipCalls
  split
  · next hok => exact absurd hok hr
  all_goals rfl

theorem skipResult_notOk (hr : s.nextAnswer.result ≠ .ok) : skipResult call s = s.nextAnswer.result := by
  unfold skipResult
  split
  · next hok => exact absurd hok hr
  all_goals next hanswer => exact hanswer.symm

/-- Settles O38: the start call answered with `ok`, and otherwise. -/
theorem skip : Obligations.Skip := fun _ _ =>
  ⟨fun hr => ⟨skipCalls_ok hr, skipResult_ok hr⟩, fun hr => ⟨skipCalls_notOk hr, skipResult_notOk hr⟩⟩

/-! ## Spacing -/

/-- The device step of the spacing commands (R245 to R248), with what follows a record that was passed, what follows a
tape mark, the start call of the direction, and the sense flag of `end-of-medium`. -/
def spacing (passed marked : State → State) (call : CodecCall) (mask : Byte) (s : State) : State :=
  match skipResult call s with
  | .ok => passed (skipCalls call s)
  | .markHit => marked (skipCalls call s)
  | .endOfMedium => endMotion ((skipCalls call s).mapCtx (senseCurrent mask))
  | .error => endMotion ((skipCalls call s).mapCtx (senseCurrent EQUIP_CHECK))

/-- A tape mark that ends the spacing of a block is an exception (R245, R247). -/
def markException (s : State) : State := endMotion (s.mapCtx (addStatus UE))

theorem deviceBsb_eq (s : State) :
    deviceBsb s = spacing endMotion markException .startBackwardRead CMD_REJECT s := rfl

theorem deviceBsf_eq (s : State) : deviceBsf s = spacing nextRecord endMotion .startBackwardRead CMD_REJECT s := rfl

theorem deviceFsb_eq (s : State) :
    deviceFsb s = spacing endMotion markException .startForwardRead EQUIP_CHECK s := rfl

theorem deviceFsf_eq (s : State) : deviceFsf s = spacing nextRecord endMotion .startForwardRead EQUIP_CHECK s := rfl

/-- `skip` in a device step makes the calls and gives the answer that it would before the bus was released. -/
theorem skip_stepping (call : CodecCall) (s : State) :
    skipResult call (s.setCtx (stepping s)) = skipResult call s ∧
      skipCalls call (s.setCtx (stepping s)) = (skipCalls call s).setCtx (stepping s) :=
  ⟨skipResult_setCtx call s _ rfl, skipCalls_setCtx call s _ rfl⟩

theorem spacing_ok (hr : skipResult call s = .ok) :
    spacing passed marked call mask (s.setCtx (stepping s)) = passed ((skipCalls call s).setCtx (stepping s)) := by
  obtain ⟨hresult, hcalls⟩ := skip_stepping call s
  simp only [spacing, hresult, hcalls, hr]

theorem spacing_markHit (hr : skipResult call s = .markHit) :
    spacing passed marked call mask (s.setCtx (stepping s)) = marked ((skipCalls call s).setCtx (stepping s)) := by
  obtain ⟨hresult, hcalls⟩ := skip_stepping call s
  simp only [spacing, hresult, hcalls, hr]

theorem spacing_endOfMedium (hr : skipResult call s = .endOfMedium) :
    spacing passed marked call mask (s.setCtx (stepping s)) = enterDataEnd ((skipCalls call s).setCtx
      { senseSet s.ctx.currentUnit mask (stepping s) with status := s.ctx.status ||| 0x0C }) := by
  obtain ⟨hresult, hcalls⟩ := skip_stepping call s
  simp only [spacing, hresult, hcalls, hr, endMotion_sense]
  rfl

theorem spacing_error (hr : skipResult call s = .error) :
    spacing passed marked call mask (s.setCtx (stepping s)) = enterDataEnd ((skipCalls call s).setCtx
      { senseSet s.ctx.currentUnit EQUIP_CHECK (stepping s) with status := s.ctx.status ||| 0x0C }) := by
  obtain ⟨hresult, hcalls⟩ := skip_stepping call s
  simp only [spacing, hresult, hcalls, hr, endMotion_sense]
  rfl

/-- A record was passed by a file-spacing command, which goes on (R246, R248). -/
theorem nextRecord_skipped (call : CodecCall) (s : State) (c : Ctx) :
    nextRecord ((skipCalls call s).setCtx c) =
      (skipCalls call s).setCtx { c with delayCounter := s.params.dMotion } := by
  rw [nextRecord, State.mapCtx_eq, State.setCtx_params, skipCalls_params]
  rfl

/-- Settles O39: the two directions have the same shape; a block and a file differ in the record and in the mark. -/
theorem spacingStep : Obligations.SpacingStep := by
  intro s hat p hp
  have hsteps :
      exec p.1 s = .next (spacing endMotion markException p.2.2.1 p.2.2.2 (s.setCtx (stepping s))) ∧
      exec p.2.1 s = .next (spacing nextRecord endMotion p.2.2.1 p.2.2.2 (s.setCtx (stepping s))) := by
    simp only [List.mem_cons, List.not_mem_nil, or_false] at hp
    obtain rfl | rfl := hp
    · rw [← deviceBsb_eq, ← deviceBsf_eq]
      exact ⟨WorkRow.bsb.exec_device hat, WorkRow.bsf.exec_device hat⟩
    · rw [← deviceFsb_eq, ← deviceFsf_eq]
      exact ⟨WorkRow.fsb.exec_device hat, WorkRow.fsf.exec_device hat⟩
  obtain ⟨hblock, hfile⟩ := hsteps
  refine ⟨fun hr => ?ok, fun hr => ?markHit, fun hr i hi => ?endOfMedium, fun hr i hi => ?error⟩
  case ok =>
    rw [hblock, hfile, spacing_ok hr, spacing_ok hr, endMotion_setCtx, nextRecord_skipped]
    exact ⟨rfl, rfl⟩
  case markHit =>
    rw [hblock, hfile, spacing_markHit hr, spacing_markHit hr, markException, endMotion_unitException,
      endMotion_setCtx]
    exact ⟨rfl, rfl⟩
  case endOfMedium =>
    simp only [List.mem_cons, List.not_mem_nil, or_false] at hi
    obtain rfl | rfl := hi
    · exact hblock.trans (congrArg _ (spacing_endOfMedium hr))
    · exact hfile.trans (congrArg _ (spacing_endOfMedium hr))
  case error =>
    simp only [List.mem_cons, List.not_mem_nil, or_false] at hi
    obtain rfl | rfl := hi
    · exact hblock.trans (congrArg _ (spacing_error hr))
    · exact hfile.trans (congrArg _ (spacing_error hr))

end Sys2Proof.Machine
end

section
/-! O49, O52, O53: the delivery of a status that waited for the bus (R134, R258 to R262), with the initial and the
ending status, which take the same answers of the channel (R184, R186, R272). -/

namespace Sys2Proof.Machine

variable {s : State} {c : Ctx} {n k : Nat} {sup : Bool} {w : BusWord}

/-! ## EPOLL -/

/-- READY serves the first sub-unit after `currentUnit` that owes a device-end (R258). -/
theorem nextReadyUnit_eq (hpos : 1 ≤ k) (hk : k ≤ n) (howes : hasBit c.readyFlags ((c.currentUnit + k) % n) = true)
    (hfirst : ∀ j, 1 ≤ j → j < k → hasBit c.readyFlags ((c.currentUnit + j) % n) = false) :
    nextReadyUnit n c = some ((c.currentUnit + k) % n) := by
  obtain ⟨i, rfl⟩ : ∃ i, k = i + 1 := ⟨k - 1, by omega⟩
  rw [nextReadyUnit, List.find?_map, Option.map_eq_some_iff]
  refine ⟨i, List.find?_range_eq_some.mpr ⟨howes, List.mem_range.mpr hk, fun j hj => ?_⟩, rfl⟩
  have hnone := hfirst (j + 1) (by omega) (by omega)
  simp [hnone]

/-- The condition under which a poll is answered (R134). -/
theorem requesting_of_phase (hp : s.ctx.phase = .pReq) (hfree : s.busFree = true) :
    (s.ctx.phase == .pReq && s.busFree) = true := by
  simp [hp, hfree]

theorem answerPoll_request (hp : s.ctx.phase = .pReq) (hfree : s.busFree = true) (hs : s.ctx.state = .request) :
    answerPoll sup s = s.mapCtx takePoll := by
  rw [answerPoll, if_pos (requesting_of_phase hp hfree), hs]

/-- A status that waits for the bus takes the poll, and with Suppress-Out up it withdraws its request (R133, R134). -/
theorem answerPoll_statusWaiting (hp : s.ctx.phase = .pReq) (hfree : s.busFree = true)
    (hs : s.ctx.state = .stack ∨ s.ctx.state = .dataEnd) :
    answerPoll sup s = s.mapCtx (if sup then toPhase .pNone else takePoll) := by
  rw [answerPoll, if_pos (requesting_of_phase hp hfree)]
  obtain hs | hs := hs <;> rw [hs]

/-- READY withdraws its request with Suppress-Out up (R133). -/
theorem answerPoll_ready_suppressed (hp : s.ctx.phase = .pReq) (hfree : s.busFree = true) (hs : s.ctx.state = .ready) :
    answerPoll true s = s.mapCtx (toPhase .pNone) := by
  rw [answerPoll, if_pos (requesting_of_phase hp hfree), hs]
  exact if_pos rfl

/-- READY takes the poll for the sub-unit it serves (R258). -/
theorem answerPoll_ready (hp : s.ctx.phase = .pReq) (hfree : s.busFree = true) (hs : s.ctx.state = .ready) {u : Nat}
    (hu : nextReadyUnit s.nunits s.ctx = some u) :
    answerPoll false s = s.mapCtx fun c => takePoll { c with currentUnit := u } := by
  rw [answerPoll, if_pos (requesting_of_phase hp hfree), hs]
  simp only [hu, Bool.false_eq_true, if_false]

/-- Settles O49: data service, a waiting status, and the sub-unit that READY serves. -/
theorem pollTaken : Obligations.PollTaken := by
  intro s hp hfree
  refine ⟨fun hs sup => ?request, fun hs => ?waiting, fun hs => ?suppressed, fun hs k hpos hk howes hfirst => ?ready⟩
  case request => exact congrArg _ (answerPoll_request hp hfree hs)
  case waiting => exact congrArg _ (answerPoll_statusWaiting hp hfree hs)
  case suppressed =>
    obtain hs | hs | hs := hs
    · exact congrArg _ (answerPoll_statusWaiting hp hfree (.inl hs))
    · exact congrArg _ (answerPoll_statusWaiting hp hfree (.inr hs))
    · exact congrArg _ (answerPoll_ready_suppressed hp hfree hs)
  case ready => exact congrArg _ (answerPoll_ready hp hfree hs (nextReadyUnit_eq hpos hk howes hfirst))

/-! ## ECMDDROP -/

theorem commandDrop_command (hs : c.state = .command) (hp : c.phase = .pCmdWait) :
    commandDrop c = toPhase .pStatus c := by
  rw [commandDrop, hs, hp]

theorem commandDrop_request (hs : c.state = .request) (hp : c.phase = .pCmdWait) :
    commandDrop c = { c with state := .operate, phase := .pNone } := by
  rw [commandDrop, hs, hp]

theorem commandDrop_statusWaiting (hs : c.state = .stack ∨ c.state = .dataEnd) (hp : c.phase = .pCmdWait) :
    commandDrop c = { c with state := .ending, phase := .pStatus } := by
  obtain hs | hs := hs <;> rw [commandDrop, hs, hp]

theorem commandDrop_ready (hs : c.state = .ready) (hp : c.phase = .pCmdWait) :
    commandDrop c = { c with status := readyStatus c, phase := .pStatus } := by
  rw [commandDrop, hs, hp]

/-- READY delivers device-end, with unit-check when sense is pending for the sub-unit (R260). -/
theorem readyStatus_eq (c : Ctx) : readyStatus c = if hasBit c.pendingUnit c.currentUnit then 0x06 else 0x04 := by
  unfold readyStatus
  split <;> rfl

/-- Settles O52: one row of `commandDrop` for each clause. -/
theorem commandDrop_holds : Obligations.CommandDrop := by
  intro s sel hld adr srv sup hp
  have hdrop : exec (.ecmddrop sel hld adr srv sup) s = .next (s.setCtx (commandDrop s.ctx)) := rfl
  rw [hdrop]
  refine ⟨fun hs => ?command, fun hs => ?request, fun hs => ?waiting, fun hs => ?ready⟩
  case command =>
    rw [commandDrop_command hs hp]
    rfl
  case request => rw [commandDrop_request hs hp]
  case waiting => rw [commandDrop_statusWaiting hs hp]
  case ready => rw [commandDrop_ready hs hp, readyStatus_eq]

/-! ## EACCEPT -/

theorem serviceOut_command (hs : c.state = .command) (hp : c.phase = .pStatus) :
    serviceOut sup w c = acceptInitial sup c := by
  rw [serviceOut, hs, hp]

/-- The device-end that READY owed has been delivered (R262). -/
theorem serviceOut_ready (hs : c.state = .ready) (hp : c.phase = .pStatus) :
    serviceOut sup w c =
      { c with
        readyFlags := c.readyFlags &&& ~~~bit c.currentUnit, chaining := false, phase := .pStatusAck } := by
  rw [serviceOut, hs, hp]
  rfl

theorem serviceOut_ending (hs : c.state = .ending) (hp : c.phase = .pStatus) :
    serviceOut sup w c = { c with chaining := sup, phase := .pStatusAck } := by
  rw [serviceOut, hs, hp]

/-- Chaining is sampled when the operation is concluded at initial status (R173, R186). -/
theorem acceptInitial_eq (sup : Bool) (c : Ctx) :
    acceptInitial sup c =
      { c with
        readyFlags := c.readyFlags &&& ~~~bit c.currentUnit
        chaining := if c.commandDone then sup else false
        state := .initStatus
        phase := .pStatusAck } := by
  have hchain : (c.commandDone && sup) = if c.commandDone then sup else false := by cases c.commandDone <;> rfl
  rw [← hchain]
  rfl

/-- Settles O53: the initial status, READY's and the ending status. -/
theorem statusAccepted : Obligations.StatusAccepted := by
  intro s sel hld adr sup hp
  have haccept : exec (.eaccept sel hld adr sup) s = .next (s.setCtx (serviceOut sup s.busOut s.ctx)) := rfl
  rw [haccept]
  refine ⟨fun hs => ?initial, fun hs => ?ready, fun hs => ?ending⟩
  case initial => rw [serviceOut_command hs hp, acceptInitial_eq]
  case ready => rw [serviceOut_ready hs hp]
  case ending => rw [serviceOut_ending hs hp]

end Sys2Proof.Machine
end

section
/-! O59, O60: the background tick (R252 to R254). One sub-unit by its two flags and the codec's answer; then the
counter, the sub-units in ascending order, and the registers that the tick leaves alone (R113). -/

namespace Sys2Proof.Machine

variable {s : State} {c : Ctx} {m k busy ready : UnitMask} {u n : Nat}

/-! ## One sub-unit -/

theorem tickUnit_notBusy (h : hasBit s.ctx.busyFlags u = false) : tickUnit s u = s := if_neg (by simp [h])

/-- A finishing is over (R253). -/
theorem tickUnit_finishing (h : hasBit s.ctx.busyFlags u = true) (hr : hasBit s.ctx.rewindFlags u = false) :
    tickUnit s u = s.setCtx (backgroundDone u s.ctx) :=
  (if_pos h).trans (if_neg (by simp [hr]))

/-- The call of a rewind (R252). -/
abbrev rewindCall (s : State) (u : Nat) : State := s.noteCall u (.rewind s.params.rewindChunk)

/-- The rewind goes on (R252). -/
theorem tickUnit_rewinding (h : hasBit s.ctx.busyFlags u = true) (hr : hasBit s.ctx.rewindFlags u = true)
    (ha : s.nextAnswer.result = .ok ∨ s.nextAnswer.result = .markHit) : tickUnit s u = rewindCall s u := by
  rw [tickUnit, if_pos h, if_pos hr]
  obtain ha | ha := ha <;> simp only [ha]

/-- The load point is reached (R252, R253). -/
theorem tickUnit_loadPoint (h : hasBit s.ctx.busyFlags u = true) (hr : hasBit s.ctx.rewindFlags u = true)
    (ha : s.nextAnswer.result = .endOfMedium) :
    tickUnit s u = (rewindCall s u).setCtx (backgroundDone u s.ctx) := by
  rw [tickUnit, if_pos h, if_pos hr]
  simp only [ha]
  rfl

/-- The rewind failed (R254). -/
theorem tickUnit_failed (h : hasBit s.ctx.busyFlags u = true) (hr : hasBit s.ctx.rewindFlags u = true)
    (ha : s.nextAnswer.result = .error) :
    tickUnit s u = (rewindCall s u).setCtx (backgroundDone u (senseSet u EQUIP_CHECK s.ctx)) := by
  rw [tickUnit, if_pos h, if_pos hr]
  simp only [ha]
  rfl

/-- Settles O59: not busy, a finishing, and a rewind by the codec's answer. -/
theorem backgroundUnit : Obligations.BackgroundUnit := fun _ _ =>
  ⟨tickUnit_notBusy, tickUnit_finishing, fun h hr =>
    ⟨tickUnit_rewinding h hr, tickUnit_loadPoint h hr, tickUnit_failed h hr⟩⟩

/-! ## The counter -/

theorem tick_idle (h : s.ctx.busyFlags = 0) : tick s = s := if_pos h

theorem tick_counting (h : s.ctx.busyFlags ≠ 0) (hcount : 0 < s.ctx.bgCounter) :
    tick s = s.setCtx { s.ctx with bgCounter := s.ctx.bgCounter - 1 } :=
  (if_neg h).trans (if_pos hcount)

theorem tick_due (h : s.ctx.busyFlags ≠ 0) (hcount : s.ctx.bgCounter = 0) :
    tick s = (tickUnits s).setCtx { (tickUnits s).ctx with bgCounter := s.params.dBg } :=
  (if_neg h).trans (if_neg (by omega))

/-! ## The end of every finishing -/

/-- Masks with the same bits are the same. -/
theorem eq_of_hasBit (h : ∀ u, hasBit m u = hasBit k u) : m = k :=
  BitVec.eq_of_getLsbD_eq fun i _ => by simpa only [hasBit_eq] using h i

theorem hasBit_or (m k : UnitMask) (u : Nat) : hasBit (m ||| k) u = (hasBit m u || hasBit k u) := by
  simp only [hasBit_eq, BitVec.getLsbD_or]

/-- `busy` and `ready` are the masks of `c` with every background action of the first `n` sub-units over (R253). -/
structure FinishedBelow (n : Nat) (c : Ctx) (busy ready : UnitMask) : Prop where
  busyBits : ∀ u, hasBit busy u = (hasBit c.busyFlags u && !decide (u < n))
  readyBits : ∀ u, hasBit ready u = (hasBit c.readyFlags u || hasBit c.busyFlags u && decide (u < n))

theorem FinishedBelow.none (c : Ctx) : FinishedBelow 0 c c.busyFlags c.readyFlags :=
  ⟨fun u => by simp, fun u => by simp⟩

theorem decide_lt_succ (u n : Nat) : decide (u < n + 1) = (decide (u < n) || decide (u = n)) := by
  rw [← Bool.decide_or]
  exact decide_eq_decide.mpr Nat.lt_succ_iff_lt_or_eq

/-- The next sub-unit had nothing to end. -/
theorem FinishedBelow.notBusy (h : FinishedBelow n c busy ready) (hn : hasBit c.busyFlags n = false) :
    FinishedBelow (n + 1) c busy ready := by
  refine ⟨fun u => ?_, fun u => ?_⟩
  · rw [h.busyBits, decide_lt_succ]
    by_cases hu : u = n <;> simp [hu, hn]
  · rw [h.readyBits, decide_lt_succ]
    by_cases hu : u = n <;> simp [hu, hn]

/-- The background action of the next sub-unit ends. -/
theorem FinishedBelow.done (h : FinishedBelow n c busy ready) (hn : hasBit c.busyFlags n = true) :
    FinishedBelow (n + 1) c (dropBit busy n) (addBit ready n) := by
  have hbit : ∀ u, hasBit (bit n) u = (hasBit c.busyFlags u && decide (u = n)) := fun u => by
    rw [hasBit_bit]
    by_cases hu : u = n <;> simp [hu, hn, lt_sixteen_of_hasBit hn]
  refine ⟨fun u => ?_, fun u => ?_⟩
  · rw [hasBit_dropBit, h.busyBits, decide_lt_succ, Bool.not_or, Bool.and_assoc]
  · rw [hasBit_addBit, h.readyBits, hbit, decide_lt_succ, Bool.and_or_distrib_left, Bool.or_assoc]

/-- When every sub-unit has been passed, no background action is left. -/
theorem FinishedBelow.eq_all (h : FinishedBelow n c busy ready) (hfit : maskFits n c.busyFlags) :
    busy = 0 ∧ ready = c.readyFlags ||| c.busyFlags := by
  have hbelow : ∀ u, hasBit c.busyFlags u = true → u < n := maskFits_iff_hasBit.mp hfit
  refine ⟨eq_zero_iff_hasBit.mpr fun u => ?_, eq_of_hasBit fun u => ?_⟩
  · rw [h.busyBits]
    cases hu : hasBit c.busyFlags u with
    | false => rfl
    | true => simp [hbelow u hu]
  · rw [h.readyBits, hasBit_or]
    cases hu : hasBit c.busyFlags u with
    | false => rfl
    | true => simp [hbelow u hu]

/-- A context with its busy and ready masks replaced. -/
def withFlags (busy ready : UnitMask) (c : Ctx) : Ctx := { c with busyFlags := busy, readyFlags := ready }

/-- `done` of a sub-unit while nothing rewinds writes these two masks (R253). -/
theorem backgroundDone_withFlags (h : c.rewindFlags = 0) (u : Nat) :
    backgroundDone u (withFlags busy ready c) = withFlags (dropBit busy u) (addBit ready u) c := by
  have hrewind : dropBit c.rewindFlags u = c.rewindFlags := by
    rw [h]
    exact BitVec.zero_and
  rw [withFlags, withFlags, backgroundDone, hrewind]

/-- While nothing rewinds, the tick of a sub-unit ends its background action, if it has one (R253). -/
theorem FinishedBelow.next (h : FinishedBelow n s.ctx busy ready) (hrewind : s.ctx.rewindFlags = 0) :
    ∃ busy' ready', FinishedBelow (n + 1) s.ctx busy' ready' ∧
      tickUnit (s.setCtx (withFlags busy ready s.ctx)) n = s.setCtx (withFlags busy' ready' s.ctx) := by
  have hbit : hasBit (s.setCtx (withFlags busy ready s.ctx)).ctx.busyFlags n = hasBit s.ctx.busyFlags n := by
    simp [withFlags, h.busyBits]
  cases hn : hasBit s.ctx.busyFlags n with
  | false => exact ⟨busy, ready, h.notBusy hn, tickUnit_notBusy (hbit.trans hn)⟩
  | true =>
    have hidle : hasBit (s.setCtx (withFlags busy ready s.ctx)).ctx.rewindFlags n = false :=
      (congrArg (hasBit · n) hrewind).trans (hasBit_zero n)
    refine ⟨_, _, h.done hn, ?_⟩
    rw [tickUnit_finishing (hbit.trans hn) hidle, State.setCtx_ctx, backgroundDone_withFlags hrewind,
      State.setCtx_setCtx]

/-- While nothing rewinds, the ticks of the first `n` sub-units end their background actions (R253). -/
theorem foldl_tickUnit_noRewind (hrewind : s.ctx.rewindFlags = 0) (n : Nat) :
    ∃ busy ready, FinishedBelow n s.ctx busy ready ∧
      (List.range n).foldl tickUnit s = s.setCtx (withFlags busy ready s.ctx) := by
  induction n with
  | zero => exact ⟨_, _, .none _, rfl⟩
  | succ n ih =>
    obtain ⟨busy, ready, hbelow, hfold⟩ := ih
    rw [List.range_succ, List.foldl_concat, hfold]
    exact hbelow.next hrewind

/-! ## The registers that the tick leaves alone -/

/-- A context without the seven registers of the background tick (R113). -/
def outsideTick (c : Ctx) : Ctx :=
  { c with
    bgCounter := 0, busyFlags := 0, rewindFlags := 0, readyFlags := 0, senseBytes := [], statusUnit := 0
    pendingUnit := 0 }

theorem tickUnit_outside (s : State) (u : Nat) : outsideTick (tickUnit s u).ctx = outsideTick s.ctx := by
  unfold tickUnit
  dsimp only
  split
  · split
    · split <;> rfl
    · rfl
  · rfl

theorem tick_outside (s : State) : outsideTick (tick s).ctx = outsideTick s.ctx :=
  tick_keeps (P := fun t => outsideTick t.ctx = outsideTick s.ctx) rfl (fun _ _ h => h)
    fun t u _ h => (tickUnit_outside t u).trans h

/-- Contexts that agree outside the tick differ in its seven registers only. -/
theorem eq_of_outsideTick {d : Ctx} (h : outsideTick d = outsideTick c) :
    d =
      { c with
        bgCounter := d.bgCounter, busyFlags := d.busyFlags, rewindFlags := d.rewindFlags, readyFlags := d.readyFlags
        senseBytes := d.senseBytes, statusUnit := d.statusUnit, pendingUnit := d.pendingUnit } :=
  calc
    d = { outsideTick d with
          bgCounter := d.bgCounter, busyFlags := d.busyFlags, rewindFlags := d.rewindFlags
          readyFlags := d.readyFlags, senseBytes := d.senseBytes, statusUnit := d.statusUnit
          pendingUnit := d.pendingUnit } := rfl
    _ = _ := by
      rw [h]
      rfl

/-- Settles O60: the counter, the sub-units, and what the tick leaves alone. -/
theorem backgroundTick : Obligations.BackgroundTick := by
  intro s
  refine ⟨tick_idle, tick_counting, tick_due, fun hbusy hcount hrewind hfit => ?finishings, tick_frame s,
    eq_of_outsideTick (tick_outside s)⟩
  case finishings =>
    obtain ⟨busy, ready, hall, hfold⟩ := foldl_tickUnit_noRewind hrewind s.nunits
    obtain ⟨rfl, rfl⟩ := hall.eq_all hfit
    rw [tick_due hbusy hcount, tickUnits, hfold]
    rfl

end Sys2Proof.Machine
end

section
/-! O42, O48, O55: the conclusion of an operation (R274 to R276), the chained re-address (R288) and a status that the
channel refuses (R185, R261, R273). -/

namespace Sys2Proof.Machine

variable {s : State} {c : Ctx} {i : Instr} {o : OutTags} {cmd : Byte} {sup : Bool} {start device : State → State}

/-! ## The status is accepted: R274 -/

/-- The drop after an accepted ending status, or an accepted initial status of a concluded command (R189, R274). -/
theorem ackDrop_conclusion (h : AtConclusion s) : ackDrop o s = endAccepted o s := by
  obtain ⟨hp, hs | ⟨hs, hdone⟩⟩ := h
  · rw [ackDrop, hs, hp]
  · rw [ackDrop, hs, hp]
    exact if_pos hdone

theorem concludedCommand_conclusion (hat : AtBranch s) (hdone : s.ctx.commandDone = true) :
    concludedCommand cmd s = endAccepted s.out s := by
  obtain ⟨hs, hp, hack⟩ := hat
  simp only [concludedCommand, hs, hp, hack, hdone, if_true]

theorem workCommand_conclusion (hat : AtBranch s) (hdone : s.ctx.commandDone = true) :
    workCommand cmd start device s = endAccepted s.out s := by
  obtain ⟨hs, hp, hack⟩ := hat
  simp only [workCommand, hs, hp, hack, hdone, if_true]

/-- Any command seen where the operation was concluded at initial status concludes it (R189). -/
theorem exec_conclusion (hbyte : byteOfInstr i = some cmd) (hat : AtBranch s) (hdone : s.ctx.commandDone = true) :
    exec i s = .next (endAccepted s.out s) := by
  cases i
  case tio | ctl | illegal | rew | run => exact congrArg _ (concludedCommand_conclusion hat hdone)
  case wr | rd | rdb | sns | erg | wtm | bsb | bsf | fsb | fsf => exact congrArg _ (workCommand_conclusion hat hdone)
  all_goals cases hbyte

/-- Settles O42: the event and the commands all run the end-accepted rule. -/
theorem operationConcluded : Obligations.OperationConcluded := by
  intro s hat
  refine ⟨fun sel hld adr sup => ?event, fun hs hack i cmd hbyte => ?command⟩
  case event =>
    have hdrop := (ackDrop_conclusion (o := ackDropTags sel hld adr sup) hat).trans (endAccepted_eq _ s)
    exact congrArg _ hdrop
  case command =>
    obtain ⟨hp, hending | ⟨-, hdone⟩⟩ := hat
    · exact absurd (hs.symm.trans hending) (by decide)
    · rw [exec_conclusion hbyte ⟨hs, hp, hack⟩ hdone, endAccepted_eq]

/-! ## ECHAIN: R288 -/

/-- In chained WAIT the re-address is taken for the same idle sub-unit; otherwise the bus is released. -/
theorem exec_echain (hs : s.ctx.state = .wait) (hsel : s.ctx.selected = true) (hchain : s.ctx.chaining = true) :
    exec (.echain sup) s = .next (s.setCtx
      (if s.addressedUnit = some s.ctx.currentUnit ∧ hasBit s.ctx.busyFlags s.ctx.currentUnit = false then
        { s.ctx with chaining := false, state := .select, phase := .pAddrWait }
      else restingCtx { s.ctx with chaining := false, selected := false })) := by
  have hwait : (s.ctx.selected && s.ctx.state == .wait && s.ctx.chaining) = true := by simp [hs, hsel, hchain]
  exact congrArg _ (if_pos hwait)

/-- Settles O48: the scanner's answer for the word on bus-out decides. -/
theorem chainedReaddress : Obligations.ChainedReaddress := by
  intro s sup hs hsel hchain
  have haddressed :
      (s.addressedUnit = some s.ctx.currentUnit ∧ hasBit s.ctx.busyFlags s.ctx.currentUnit = false) ↔
        parityOK s.busOut = true ∧ scan s.registry (busByte s.busOut) = some (s.index, s.ctx.currentUnit) ∧
          hasBit s.ctx.busyFlags s.ctx.currentUnit = false := by
    rw [addressedUnit_iff, and_assoc]
  rw [exec_echain hs hsel hchain]
  exact ⟨fun hsame => by rw [if_pos (haddressed.mpr hsame)], fun hother => by rw [if_neg (mt haddressed.mp hother)]⟩

/-! ## ESTACK -/

/-- The initial status goes to STACK, with `stackInitial`'s registers (R185). -/
theorem stackStatus_command (hs : c.state = .command) (hp : c.phase = .pStatus) : stackStatus c = stackInitial c := by
  rw [stackStatus, hs, hp]

/-- READY's status stays owed (R261). -/
theorem stackStatus_ready (hs : c.state = .ready) (hp : c.phase = .pStatus) :
    stackStatus c = toPhase .pStatusAck c := by
  rw [stackStatus, hs, hp]

/-- The ending status waits in STACK with its command (R273). -/
theorem stackStatus_ending (hs : c.state = .ending) (hp : c.phase = .pStatus) :
    stackStatus c = { c with state := .stack, phase := .pStatusAck } := by
  rw [stackStatus, hs, hp]

/-- Settles O55: the initial status, READY's and the ending status. -/
theorem statusStacked : Obligations.StatusStacked := by
  intro s sel hld adr sup hp
  have hstack : exec (.estack sel hld adr sup) s = .next (s.setCtx (stackStatus s.ctx)) := rfl
  rw [hstack]
  refine ⟨fun hs => ?initial, fun hs => ?ready, fun hs => ?ending⟩
  case initial =>
    rw [stackStatus_command hs hp]
    rfl
  case ready =>
    rw [stackStatus_ready hs hp]
    rfl
  case ending => rw [stackStatus_ending hs hp]

end Sys2Proof.Machine
end

section
/-! O17: the status while an operation is in progress (R43 (c), R277). Every rule that leaves the operation in progress
ORs bits into `status` or leaves it alone; the rules that clear it conclude or drop the operation, and clear
`currentCommand` with it. -/

namespace Sys2Proof.Machine

variable {x y : Byte} {c : Ctx} {s t : State} {i : Instr} {o : OutTags} {cmd : Byte}
  {start device passed marked : State → State} {mask : Byte} {call : CodecCall}

/-! ## Bits that are kept -/

/-- Every bit of `x` is set in `status`. -/
def HasStatus (x : Byte) (c : Ctx) : Prop := x &&& ~~~c.status = 0

theorem HasStatus.self (c : Ctx) : HasStatus c.status c := BitVec.and_not_self _

theorem HasStatus.of_zero (h : x = 0x00) : HasStatus x c := by
  rw [HasStatus, h]
  exact BitVec.zero_and

theorem HasStatus.of_eq {d : Ctx} (h : HasStatus x c) (hstatus : d.status = c.status) : HasStatus x d := by
  rwa [HasStatus, hstatus]

theorem HasStatus.addStatus (h : HasStatus x c) (y : Byte) : HasStatus x (addStatus y c) := by
  rw [HasStatus] at h
  rw [HasStatus, addStatus_status, BitVec.not_or, ← BitVec.and_assoc, h]
  exact BitVec.zero_and

theorem HasStatus.senseCurrent (h : HasStatus x c) (mask : Byte) : HasStatus x (senseCurrent mask c) := h

/-! ## The work of a command ORs bits into the status -/

theorem addUnitCheck_hasStatus (h : HasStatus x c) : HasStatus x (addUnitCheck c) := by
  unfold addUnitCheck
  split
  · exact h.addStatus UC
  · exact h

theorem enterDataEnd_hasStatus (h : HasStatus x s.ctx) : HasStatus x (enterDataEnd s).ctx := by
  rw [enterDataEnd, State.mapCtx_ctx, presentEnding_eq, withholdDeviceEnd_eq]
  exact addUnitCheck_hasStatus
    (closeRecord_keeps (P := HasStatus x) h (fun _ hc => hc)
      (fun _ hc => hc.senseCurrent EQUIP_CHECK) fun _ hc => hc.addStatus UE)

theorem endData_hasStatus (h : HasStatus x s.ctx) : HasStatus x (endData y s).ctx :=
  enterDataEnd_hasStatus (h.addStatus y)

theorem endMotion_hasStatus (h : HasStatus x s.ctx) : HasStatus x (endMotion s).ctx :=
  enterDataEnd_hasStatus (h.addStatus (CE ||| DE))

theorem offerByte_hasStatus (h : HasStatus x s.ctx) : HasStatus x (offerByte s).ctx := by
  rw [offerByte_eq, State.setCtx_ctx]
  split <;> exact h

theorem requestByte_hasStatus (h : HasStatus x s.ctx) : HasStatus x (requestByte s).ctx := by
  rw [requestByte_eq, State.setCtx_ctx]
  split <;> exact h

theorem drawOverrun_hasStatus (h : HasStatus x s.ctx) : HasStatus x (drawOverrun s).ctx :=
  drawOverrun_keeps h fun _ hc => hc.senseCurrent OVERRUN

theorem fetchSense_hasStatus (h : HasStatus x s.ctx) : HasStatus x (fetchSense s).ctx := by
  unfold fetchSense
  dsimp only
  split <;> exact h

theorem deviceWr_hasStatus (h : HasStatus x s.ctx) : HasStatus x (deviceWr s).ctx := by
  unfold deviceWr
  split
  · have hdrawn : HasStatus x (drawOverrun ((s.noteCall s.ctx.currentUnit (.writeFrame s.ctx.dataByte)).mapCtx
        fun c => { c with dataReady := false })).ctx := drawOverrun_hasStatus h
    dsimp only
    split
    · exact endData_hasStatus (hdrawn.senseCurrent EQUIP_CHECK)
    · exact requestByte_hasStatus (hdrawn.addStatus UE)
    · exact requestByte_hasStatus hdrawn
    · exact requestByte_hasStatus hdrawn
  · exact requestByte_hasStatus h

theorem deviceRead_hasStatus (h : HasStatus x s.ctx) : HasStatus x (deviceRead s).ctx := by
  unfold deviceRead
  split
  · exact offerByte_hasStatus h
  · dsimp only
    split
    · exact offerByte_hasStatus (drawOverrun_hasStatus h)
    · exact endData_hasStatus h
    all_goals exact endData_hasStatus (h.senseCurrent EQUIP_CHECK)

theorem deviceSns_hasStatus (h : HasStatus x s.ctx) : HasStatus x (deviceSns s).ctx := by
  unfold deviceSns
  split
  · exact offerByte_hasStatus h
  · split
    · exact offerByte_hasStatus (fetchSense_hasStatus h)
    · exact endData_hasStatus h

theorem deviceWtm_hasStatus (h : HasStatus x s.ctx) : HasStatus x (deviceWtm s).ctx := by
  unfold deviceWtm
  dsimp only
  split
  · exact endMotion_hasStatus h
  · exact endMotion_hasStatus h
  · exact endMotion_hasStatus (h.addStatus UE)
  · exact endMotion_hasStatus (h.senseCurrent EQUIP_CHECK)

theorem markException_hasStatus (h : HasStatus x s.ctx) : HasStatus x (markException s).ctx :=
  endMotion_hasStatus (h.addStatus UE)

theorem nextRecord_hasStatus (h : HasStatus x s.ctx) : HasStatus x (nextRecord s).ctx := h

/-- A spacing step keeps what its two continuations keep; when it fails it ends as all motion does (R245 to R248). -/
theorem spacing_hasStatus (hpassed : ∀ {v : State}, HasStatus x v.ctx → HasStatus x (passed v).ctx)
    (hmarked : ∀ {v : State}, HasStatus x v.ctx → HasStatus x (marked v).ctx) (h : HasStatus x s.ctx) :
    HasStatus x (spacing passed marked call mask s).ctx := by
  have hcalls : HasStatus x (skipCalls call s).ctx := by rwa [skipCalls_ctx]
  unfold spacing
  split
  · exact hpassed hcalls
  · exact hmarked hcalls
  · exact endMotion_hasStatus (hcalls.senseCurrent mask)
  · exact endMotion_hasStatus (hcalls.senseCurrent EQUIP_CHECK)

theorem WorkRow.device_hasStatus (row : WorkRow cmd start device) (h : HasStatus x s.ctx) :
    HasStatus x (device s).ctx := by
  cases row
  case wr => exact deviceWr_hasStatus h
  case rd | rdb => exact deviceRead_hasStatus h
  case sns => exact deviceSns_hasStatus h
  case erg => exact endMotion_hasStatus h
  case wtm => exact deviceWtm_hasStatus h
  case bsb =>
    rw [deviceBsb_eq]
    exact spacing_hasStatus endMotion_hasStatus markException_hasStatus h
  case bsf =>
    rw [deviceBsf_eq]
    exact spacing_hasStatus nextRecord_hasStatus endMotion_hasStatus h
  case fsb =>
    rw [deviceFsb_eq]
    exact spacing_hasStatus endMotion_hasStatus markException_hasStatus h
  case fsf =>
    rw [deviceFsf_eq]
    exact spacing_hasStatus nextRecord_hasStatus endMotion_hasStatus h

theorem operate_hasStatus (hd : ∀ v : State, HasStatus x v.ctx → HasStatus x (device v).ctx) (h : HasStatus x s.ctx) :
    HasStatus x (operate o device s).ctx := by
  unfold operate
  dsimp only
  split
  · exact h
  · exact hd _ h

/-! ## Where a status stands -/

/-- The operation is over, concluded (R274) or dropped: its status and its command are cleared. -/
def Dropped (c : Ctx) : Prop := c.status = 0x00 ∧ c.currentCommand = 0x00

/-- What the invariants leave of a context that holds a status of an operation: a state from command capture on; in
INIT_STATUS the command was concluded there (R189); in COMMAND only a command that was not executed finds a device-end
owed (R172). -/
structure HoldsStatus (c : Ctx) : Prop where
  captured : c.state ∉ [CState.idle, .select, .wait, .ready]
  concluded : c.state = .initStatus → c.commandDone = true
  notExecuted : c.state = .command → hasBit c.readyFlags c.currentUnit = true → c.currentCommand = 0x00

theorem HoldsStatus.ne (h : HoldsStatus c) {st : CState} (hst : st ∈ [CState.idle, .select, .wait, .ready]) :
    c.state ≠ st := fun hs => h.captured (hs ▸ hst)

/-- From the start of the work on, a status of the operation may stand. -/
theorem HoldsStatus.of_working
    (h : c.state ∈ [CState.operate, .request, .dataIn, .dataOut, .dataEnd, .ending, .stack]) : HoldsStatus c := by
  have hworking : ∀ st ∈ [CState.operate, .request, .dataIn, .dataOut, .dataEnd, .ending, .stack],
      st ∉ [CState.idle, .select, .wait, .ready] ∧ st ≠ .initStatus ∧ st ≠ .command := by decide
  obtain ⟨hcaptured, hinitial, hcommand⟩ := hworking _ h
  exact ⟨hcaptured, fun hs => absurd hs hinitial, fun hs => absurd hs hcommand⟩

/-- Before that, the invariants let a status stand only for a command that is done (R190). -/
theorem HoldsStatus.of_initial {p : Params} {k : Controller} (hinv : CtxInv p k)
    (h : k.ctx.state ∈ [CState.command, .initStatus]) (hstatus : k.ctx.status ≠ 0x00) : HoldsStatus k.ctx := by
  simp only [List.mem_cons, List.not_mem_nil, or_false] at h
  refine ⟨?captured, fun _ => ?concluded, fun hs hready => ?notExecuted⟩
  case captured => obtain hs | hs := h <;> rw [hs] <;> decide
  case concluded =>
    by_contra hdone
    exact hstatus (hinv.noStatusYet h (Bool.eq_false_of_not_eq_true hdone))
  case notExecuted =>
    by_contra hexecuted
    have hnotReady := hinv.currentNotReady (by rw [hs]; rfl) hexecuted
    exact Bool.false_ne_true (hnotReady.symm.trans hready)

/-! ## What an instruction does to it -/

/-- The bits of `x` are kept, or the operation is over. -/
def KeptOrDropped (x : Byte) (c : Ctx) : Prop := HasStatus x c ∨ Dropped c

theorem endAccepted_dropped (o : OutTags) (s : State) : Dropped (endAccepted o s).ctx := by
  rw [endAccepted_eq]
  exact ⟨rfl, rfl⟩

theorem concludedCommand_keptOrDropped (h : HoldsStatus s.ctx) (hx : HasStatus x s.ctx) (cmd : Byte) :
    KeptOrDropped x (concludedCommand cmd s).ctx := by
  unfold concludedCommand
  split
  case h_1 hs _ => exact absurd hs (h.ne (by decide))
  case h_2 hs _ =>
    split
    · rw [if_pos (h.concluded hs)]
      exact .inr (endAccepted_dropped _ s)
    · exact .inl hx
  case h_3 => exact .inl (operate_hasStatus (fun _ hv => hv) hx)
  case h_4 => exact .inl hx

theorem WorkRow.command_keptOrDropped (row : WorkRow cmd start device) (h : HoldsStatus s.ctx)
    (hx : HasStatus x s.ctx) : KeptOrDropped x (workCommand cmd start device s).ctx := by
  unfold workCommand
  split
  case h_1 hs _ => exact absurd hs (h.ne (by decide))
  case h_2 hs _ =>
    split
    · rw [if_pos (h.concluded hs)]
      exact .inr (endAccepted_dropped _ s)
    · exact .inl hx
  case h_3 => exact .inl (operate_hasStatus (fun _ => row.device_hasStatus) hx)
  case h_4 => exact .inl hx

theorem commandOut_hasStatus (h : HoldsStatus s.ctx) (hx : HasStatus x s.ctx) : HasStatus x (commandOut s).ctx := by
  unfold commandOut
  split
  case h_1 hs _ => exact absurd hs (h.ne (by decide))
  all_goals exact hx

theorem commandDrop_hasStatus (h : HoldsStatus c) (hx : HasStatus x c) : HasStatus x (commandDrop c) := by
  unfold commandDrop
  split
  case h_5 hs _ => exact absurd hs (h.ne (by decide))
  all_goals exact hx

theorem serviceOut_status (sup : Bool) (w : BusWord) (c : Ctx) : (serviceOut sup w c).status = c.status := by
  unfold serviceOut
  split
  case h_5 =>
    unfold captureByte
    split <;> rfl
  all_goals rfl

/-- A stacked initial status is kept, unless it is the device-end that stays owed, whose command was not executed
(R172, R185). -/
theorem stackStatus_keptOrDropped (h : HoldsStatus c) (hx : HasStatus x c) : KeptOrDropped x (stackStatus c) := by
  unfold stackStatus
  split
  case h_1 hs _ =>
    cases howed : hasBit c.readyFlags c.currentUnit
    · exact .inl (hx.of_eq (if_neg (by simp [howed])))
    · refine .inr ⟨if_pos howed, ?_⟩
      change (if c.commandDone then c.currentCommand else 0x00) = 0x00
      rw [h.notExecuted hs howed, ite_self]
  all_goals exact .inl hx

theorem stopTransfer_hasStatus (hx : HasStatus x c) : HasStatus x (stopTransfer c) := by
  unfold stopTransfer
  split
  · exact HasStatus.addStatus (c := { c with dataReady := false, dataEnd := true, phase := .pServiceAck }) hx _
  · exact HasStatus.addStatus (c := { c with dataEnd := true, phase := .pServiceAck }) hx _
  · exact hx

theorem byteDone_hasStatus (hx : HasStatus x s.ctx) : HasStatus x (byteDone o s).ctx := by
  unfold byteDone
  dsimp only
  split
  · exact enterDataEnd_hasStatus hx
  · exact hx

theorem stackDrop_status (c : Ctx) : (stackDrop c).status = c.status := by
  unfold stackDrop
  split <;> rfl

theorem ackDrop_keptOrDropped (h : HoldsStatus s.ctx) (hx : HasStatus x s.ctx) (o : OutTags) :
    KeptOrDropped x (ackDrop o s).ctx := by
  unfold ackDrop
  split
  case h_1 hs _ =>
    rw [if_pos (h.concluded hs)]
    exact .inr (endAccepted_dropped o s)
  case h_2 | h_3 => exact .inl (byteDone_hasStatus hx)
  case h_4 hs _ => exact absurd hs (h.ne (by decide))
  case h_5 => exact .inr (endAccepted_dropped o s)
  case h_6 =>
    split
    · exact .inl (hx.of_eq (stackDrop_status _))
    · exact .inl hx
  case h_7 => exact .inl hx

/-- A running command is ended by a halt with bits added (R143). -/
theorem haltTransfer_hasStatus (hx : HasStatus x s.ctx) : HasStatus x (haltTransfer s).ctx :=
  enterDataEnd_hasStatus (HasStatus.addStatus (c := { s.ctx with dataReady := false, dataEnd := true }) hx _)

/-- Halt drops the command before any status was accepted, concludes an accepted one, and keeps the status otherwise
(R141 to R147). -/
theorem halt_keptOrDropped (h : HoldsStatus s.ctx) (hx : HasStatus x s.ctx) (o : OutTags) :
    KeptOrDropped x (halt o s).ctx := by
  unfold halt
  split
  case isFalse => exact .inl hx
  case isTrue =>
    unfold haltByState
    cases hs : s.ctx.state <;> dsimp only
    case idle | select | wait | ready => exact absurd hs (h.ne (by decide))
    case command => exact .inr ⟨rfl, rfl⟩
    case initStatus =>
      rw [if_pos (show (s.mapCtx haltCommon).ctx.commandDone = true from h.concluded hs)]
      exact .inr (endAccepted_dropped o _)
    case operate | dataIn | dataOut | request => exact .inl (haltTransfer_hasStatus hx)
    case dataEnd => exact .inl hx
    case ending =>
      split
      · exact .inl hx
      · split
        · exact .inr (endAccepted_dropped o _)
        · exact .inl hx
    case stack => split <;> exact .inl hx

/-! ## Selection and the cycles without an event -/

theorem selectByState_status (u : Nat) (c : Ctx) : (selectByState u c).status = c.status := by
  unfold selectByState
  cases c.state <;> dsimp only
  case idle | wait | ready => split <;> rfl
  all_goals rfl

theorem addressedSelection_status (s : State) : (addressedSelection s).ctx.status = s.ctx.status := by
  unfold addressedSelection
  split
  · split
    · exact selectByState_status _ _
    · rfl
  · rfl

theorem chainedAddress_status (s : State) : (chainedAddress s).ctx.status = s.ctx.status := by
  unfold chainedAddress
  split
  · rw [State.mapCtx_ctx]
    split <;> rfl
  · rfl

theorem answerPoll_status (sup : Bool) (s : State) : (answerPoll sup s).ctx.status = s.ctx.status := by
  unfold answerPoll
  split
  · split
    case h_2 | h_3 => cases sup <;> rfl
    case h_4 =>
      split
      · rfl
      · split <;> rfl
    all_goals rfl
  · rfl

theorem endBusy_status (s : State) : (endBusy s).ctx.status = s.ctx.status := by
  unfold endBusy
  split <;> rfl

theorem gateRequest_status (o : OutTags) (c : Ctx) : (gateRequest o c).status = c.status := by
  unfold gateRequest
  split
  · rfl
  · split <;> rfl

theorem quietStep_hasStatus (h : HoldsStatus s.ctx) (hx : HasStatus x s.ctx) (o : OutTags) :
    HasStatus x (quietStep o s).ctx := by
  unfold quietStep
  cases hs : s.ctx.state <;> dsimp only
  case idle | select | wait | ready => exact absurd hs (h.ne (by decide))
  case operate =>
    split
    · obtain he | ⟨start, row⟩ := deviceOf_row s.ctx.currentCommand
      · exact operate_hasStatus (fun _ hv => by rwa [he]) hx
      · exact operate_hasStatus (fun _ => row.device_hasStatus) hx
    · exact hx
  case request => split <;> exact hx
  case dataEnd | stack =>
    split
    · exact hx
    · exact hx.of_eq (gateRequest_status _ _)
  all_goals exact hx

/-! ## Every instruction -/

/-- Whatever the instruction, a status of an operation is kept, or the operation is over (R277). -/
theorem Meaning.keptOrDropped (hm : Meaning i s t) (h : HoldsStatus s.ctx) (hx : HasStatus x s.ctx) :
    KeptOrDropped x t.ctx := by
  cases hm with
  | concluded c => exact concludedCommand_keptOrDropped h hx c
  | work row _ => exact row.command_keptOrDropped h hx
  | reset => exact .inr ⟨rfl, rfl⟩
  | halted o => exact halt_keptOrDropped h hx o
  | selected => exact .inl (hx.of_eq (addressedSelection_status s))
  | chained => exact .inl (hx.of_eq (chainedAddress_status s))
  | polled sup => exact .inl (hx.of_eq (answerPoll_status sup s))
  | abandoned _ _ => exact .inl hx
  | addressDropped _ _ => exact .inl hx
  | commandOut => exact .inl (commandOut_hasStatus h hx)
  | commandDropped => exact .inl (commandDrop_hasStatus h hx)
  | serviceOut sup => exact .inl (hx.of_eq (serviceOut_status sup _ _))
  | stacked => exact stackStatus_keptOrDropped h hx
  | stopped => exact .inl (stopTransfer_hasStatus hx)
  | ackDropped o => exact ackDrop_keptOrDropped h hx o
  | busyEnded => exact .inl (hx.of_eq (endBusy_status s))
  | quiet o => exact .inl (quietStep_hasStatus h hx o)
  | held => exact .inl hx

/-- Settles O17: an empty status has no bit to lose, and one that is not is that of a context that holds a status. -/
theorem statusOnlyGrows : Obligations.StatusOnlyGrows := by
  intro i s t hexec hprogress
  by_cases hempty : s.ctx.status = 0x00
  · exact .inl (HasStatus.of_zero hempty)
  · have hholds : HoldsStatus s.ctx := by
      obtain hworking | ⟨hinitial, hinv⟩ := hprogress
      · exact .of_working hworking
      · exact .of_initial hinv hinitial hempty
    exact (exec_meaning hexec).keptOrDropped hholds (.self _)

end Sys2Proof.Machine
end

section
/-! O6, O10, O21: the registry and its scanner. A legal registry gives every address at most one owner: that is what the
constructor checks (R302), and why the scanner's first match is the only one (R301). A step keeps the registry (R300). -/

namespace Sys2Proof.Machine

variable {a : Byte} {e : RegEntry} {es reg : List RegEntry} {i j u : Nat} {s t : State}

/-! ## A legal registry -/

/-- The address is in the range of the registry entry (R300). -/
def Owns (e : RegEntry) (a : Byte) : Prop := e.base.toNat ≤ a.toNat ∧ a.toNat < e.base.toNat + e.nunits

/-- What the check of R302 says of the first entry: its own range is good, and it shares no address with the others. -/
theorem legalRegistry_cons (h : legalRegistry (e :: es) = true) :
    (1 ≤ e.nunits ∧ e.base.toNat + e.nunits ≤ 256) ∧ (∀ k ∈ es, ∀ a, ¬(Owns e a ∧ Owns k a)) ∧
      legalRegistry es = true := by
  simp only [legalRegistry, disjointFrom, Bool.and_eq_true, List.all_eq_true, decide_eq_true_eq] at h
  obtain ⟨⟨⟨hlow, -, hrange⟩, hdisjoint⟩, hes⟩ := h
  refine ⟨⟨hlow, hrange⟩, fun k hk a ⟨⟨hle, hlt⟩, hle', hlt'⟩ => ?_, hes⟩
  have hapart := hdisjoint k hk
  omega

/-- No range of a legal registry passes 0xFF (R302). -/
theorem range_of_legalRegistry (h : legalRegistry reg = true) : ∀ e ∈ reg, e.base.toNat + e.nunits ≤ 256 := by
  induction reg with
  | nil => nofun
  | cons e es ih =>
    obtain ⟨⟨-, hrange⟩, -, hes⟩ := legalRegistry_cons h
    exact List.forall_mem_cons.mpr ⟨hrange, ih hes⟩

/-- No address of a legal registry has two owners (R302). -/
theorem pairwise_of_legalRegistry (h : legalRegistry reg = true) :
    reg.Pairwise fun e k => ∀ a, ¬(Owns e a ∧ Owns k a) := by
  induction reg with
  | nil => exact .nil
  | cons e es ih =>
    obtain ⟨-, hdisjoint, hes⟩ := legalRegistry_cons h
    exact .cons hdisjoint (ih hes)

/-! ## Building the machine -/

theorem attached_registry (p : Params) (e : RegEntry) (es : List RegEntry) :
    (State.attached p e es).registry = e :: es := by
  rw [State.registry, attached_controllers, List.map_map]
  exact List.map_id _

/-- A machine is built only from a legal registry (R302). -/
theorem attach_refused (p : Params) (h : legalRegistry reg ≠ true) :
    State.attach p reg = .error .illegalConfiguration := by
  cases reg with
  | nil => rfl
  | cons e es =>
    refine if_neg fun hlegal => h ?_
    rw [State.legal, attached_registry, Bool.and_eq_true] at hlegal
    exact hlegal.2

/-- Settles O6: each of the three grounds is one that a legal registry does not have. -/
theorem badRegistryRefused : Obligations.BadRegistryRefused := by
  intro p reg hbad
  refine attach_refused p fun hlegal => ?_
  obtain ⟨e, he, hnone | hpast⟩ | hoverlap := hbad
  · have hunits := (nunits_of_legalRegistry hlegal e he).1
    omega
  · have hrange := range_of_legalRegistry hlegal e he
    omega
  · exact hoverlap (pairwise_of_legalRegistry hlegal)

/-! ## A step -/

/-- Settles O10: the tick and the instruction touch the current controller only, and then the turn passes on, within the
cycle or to the next one. -/
theorem stepKeepsRegistry : Obligations.StepKeepsRegistry := by
  intro s t hstep
  obtain ⟨v, hframe, hv, hparams, hregistry⟩ := step_of_legal (step_next hstep).1
  obtain rfl : advance v = t := Host.Outcome.next.inj (hv.symm.trans hstep)
  refine ⟨hregistry, hparams, fun hne => ?_, fun hlast => ?_⟩
  · obtain ⟨k, ks, ha⟩ := List.exists_cons_of_ne_nil hne
    rw [advance_of_after (hframe.after.trans ha)]
    refine ⟨?_, hframe.cycle, hframe.lines⟩
    simp [State.index, hframe.before]
  · obtain ⟨hbefore, henv⟩ := advance_of_last (hframe.after.trans hlast)
    rw [State.index, hbefore, henv, Env.nextCycle, hframe.cycle, hframe.lines]
    exact ⟨rfl, rfl, rfl⟩

/-! ## The scanner -/

theorem scanFrom_owned (h : Owns e a) : scanFrom a i (e :: es) = some (i, a.toNat - e.base.toNat) := if_pos h

theorem scanFrom_notOwned (h : ¬Owns e a) : scanFrom a i (e :: es) = scanFrom a (i + 1) es := if_neg h

/-- The scanner answers the owner, where an address has one at most (R301). -/
theorem scanFrom_iff (hone : es.Pairwise fun e k => ∀ a, ¬(Owns e a ∧ Owns k a)) :
    scanFrom a i es = some (j, u) ↔ ∃ n e, es[n]? = some e ∧ j = i + n ∧ Owns e a ∧ u = a.toNat - e.base.toNat := by
  induction es generalizing i with
  | nil => simp [scanFrom]
  | cons e es ih =>
    obtain ⟨hhead, htail⟩ := List.pairwise_cons.mp hone
    by_cases hown : Owns e a
    · rw [scanFrom_owned hown]
      constructor
      · intro h
        obtain ⟨rfl, rfl⟩ := Prod.mk.inj (Option.some.inj h)
        exact ⟨0, e, rfl, rfl, hown, rfl⟩
      · rintro ⟨_ | n, k, hk, rfl, hown', rfl⟩
        · obtain rfl := Option.some.inj hk
          rfl
        · exact absurd ⟨hown, hown'⟩ (hhead k (List.mem_of_getElem? hk) a)
    · rw [scanFrom_notOwned hown, ih htail]
      constructor
      · rintro ⟨n, k, hk, rfl, hown', rfl⟩
        exact ⟨n + 1, k, hk, by omega, hown', rfl⟩
      · rintro ⟨_ | n, k, hk, rfl, hown', rfl⟩
        · exact absurd (Option.some.inj hk ▸ hown') hown
        · exact ⟨n, k, hk, by omega, hown', rfl⟩

/-- Settles O21: the registry index of the whole scan counts from 0. -/
theorem scanFinds : Obligations.ScanFinds := by
  intro reg hlegal a i u
  rw [scan, scanFrom_iff (pairwise_of_legalRegistry hlegal)]
  simp only [Nat.zero_add, Owns, and_assoc]
  constructor
  · rintro ⟨_, e, he, rfl, howns⟩
    exact ⟨e, he, howns⟩
  · rintro ⟨e, he, howns⟩
    exact ⟨i, e, he, rfl, howns⟩

end Sys2Proof.Machine
end

section
/-! O22: recording an error in the sense registers (R311), with the sense array taken apart into byte 0 and the rest. -/

namespace Sys2Proof.Machine

variable {mask b : Byte} {bs : List Byte}

theorem orFirst_cons : orFirst mask (b :: bs) = (b ||| mask) :: bs := rfl

/-- On a cleared array only the mask is left in byte 0. -/
theorem orFirst_zeroBytes_cons : orFirst mask (zeroBytes (b :: bs)) = mask :: List.replicate bs.length 0x00 := by
  simp [zeroBytes_eq, List.replicate_succ, orFirst_cons]

/-- Settles O22: the array is cleared first exactly where sense is pending for another sub-unit. -/
theorem senseSet_holds : Obligations.SenseSet := by
  intro u mask b bs c hbytes
  rw [senseSet, hbytes]
  by_cases hother : c.pendingUnit ≠ 0 ∧ c.statusUnit ≠ u
  · rw [if_pos hother, if_pos hother, orFirst_zeroBytes_cons]
  · rw [if_neg hother, if_neg hother, orFirst_cons]

end Sys2Proof.Machine
end

section
/-! O5, O7, O43: attach (R340), the total step (R352) and the interface reset (R341). At attach and after ERESET a
controller is not selected and in P_NONE, and in that phase it drives nothing (R115). -/

namespace Sys2Proof.Machine

variable {c : Ctx} {s : State} {ks : List Controller}

/-! ## No line driven -/

theorem drive_resting (hs : c.selected = false) (hp : c.phase = .pNone) : drive c = InTags.down := by
  simp [drive, hs, hp, InTags.down]

theorem busDrive_pNone (hp : c.phase = .pNone) : busDrive c = 0x000 := by
  rw [busDrive, hp]

theorem driveAll_down (h : ∀ k ∈ ks, drive k.ctx = InTags.down) : driveAll ks = InTags.down := by
  induction ks with
  | nil => rfl
  | cons k ks ih =>
    obtain ⟨hk, hks⟩ := List.forall_mem_cons.mp h
    rw [driveAll_cons, hk, ih hks]
    rfl

theorem busIn_low (h : ∀ k ∈ s.controllers, busDrive k.ctx = 0x000) : s.busIn = 0x000 := by
  rw [State.busIn]
  generalize s.controllers = ks at h
  induction ks with
  | nil => rfl
  | cons k ks ih =>
    obtain ⟨hk, hks⟩ := List.forall_mem_cons.mp h
    rw [List.map_cons, List.foldr_cons, hk, ih hks]
    rfl

/-! ## Attach -/

theorem attached_ctx {p : Params} {e : RegEntry} {es : List RegEntry} {k : Controller}
    (hk : k ∈ (State.attached p e es).controllers) : k.ctx = Ctx.attach k.entry p.nsense := by
  rw [attached_controllers] at hk
  obtain ⟨_, -, rfl⟩ := List.mem_map.mp hk
  rfl

/-- Settles O5: every controller of the registry is at its attach values, which drive no line. -/
theorem attachValues : Obligations.AttachValues := by
  intro p e es
  refine ⟨attached_registry p e es, ?_, ?_, fun k hk => attached_ctx hk⟩
  · exact driveAll_down fun k hk => by rw [attached_ctx hk]; exact drive_resting rfl rfl
  · exact busIn_low fun k hk => by rw [attached_ctx hk]; exact busDrive_pNone rfl

/-! ## The step -/

theorem step_of_not_legal (h : s.legal = false) : step s = .refused .illegalConfiguration := by
  rw [step, if_neg (by simp [h])]

/-- Settles O7: a legal configuration runs one instruction, which has a next state; any other is refused. -/
theorem stepTotal : Obligations.StepTotal := by
  refine fun s => ⟨fun hlegal => ?_, step_of_not_legal⟩
  obtain ⟨v, -, hstep, -⟩ := step_of_legal hlegal
  exact ⟨advance v, hstep⟩

/-! ## ERESET -/

theorem exec_ereset (sel hld adr cmd srv sup : Bool) (s : State) :
    exec (.ereset sel hld adr cmd srv sup) s = .next (s.setCtx (resetCtx s.ctx)) := rfl

/-- Settles O43: the registers of `resetCtx` are those of R49, and it leaves the controller at rest. -/
theorem interfaceReset : Obligations.InterfaceReset := by
  intro s sel hld adr cmd srv sup
  refine ⟨_, exec_ereset sel hld adr cmd srv sup s, ?_, drive_resting rfl rfl, busDrive_pNone rfl⟩
  rw [resetCtx, zeroBytes_eq]

end Sys2Proof.Machine
end
